-- ==== Sys2Proof/Word.lean ====
section
/-! DEFINITION. The word types of the CD+G packet decoder and the one table builder every array of the
model is made with (spec/00_scope.md R7, R9, R13; spec/10_state.md R21, R24, R33). -/

namespace Sys2Proof

/-- A byte of the input stream (R51: "8 bits per byte"). -/
abbrev Byte := BitVec 8

/-- A framebuffer pixel: a 4-bit palette index (R21). -/
abbrev Pixel := BitVec 4

/-- A 24-bit RGB value `r : g : b`, red in bits 23:16, green in 15:8, blue in 7:0 (R24, R59). -/
abbrev Color := BitVec 24

/-- An unsigned 32-bit count of milliseconds of stream time (R30, R33). -/
abbrev Millis := BitVec 32

/-- A 12-bit colour as a Load Colors payload carries it (R79): 4 bits a channel. -/
structure Rgb12 where
  r : BitVec 4
  g : BitVec 4
  b : BitVec 4
deriving DecidableEq, Repr

/-- An array of `h` rows (row 0 at the top, R13) of `w` columns (column 0 at the left). -/
abbrev Grid (w h : Nat) (α : Type) := Vector (Vector α w) h

/-- `FB`: 300 columns by 216 rows of 4-bit palette indices (R21). -/
abbrev Framebuffer := Grid 300 216 Pixel

/-- The image of a frame: 288 columns by 192 rows of 24-bit RGB values (R33). -/
abbrev Image := Grid 288 192 Color

/-- `PAL[0..15]`, the palette register file (R24). -/
abbrev Palette := Vector Color 16

/-- The array of length `n` whose element `i` is `f i`. -/
def tabulate {α : Type} (n : Nat) (f : Nat → α) : Vector α n :=
  ⟨⟨(List.range n).map f⟩, by simp⟩

end Sys2Proof
end

