-- ==== Sys2Proof/Config.lean ====
section
/-! DEFINITION. The parameters the spec leaves open and takes "as a named argument of the model with this
spec's default" (spec/00_scope.md R8). A `Config` stands in `State` as the field `cfg`, which no step writes,
so that a claim about every state is a claim about every setting; `Config.default` is what reset holds. -/

namespace Sys2Proof

/-- `OFFSET_POLICY` (R8, R169): what a scroll offset field above its maximum does. -/
inductive OffsetPolicy where
  | clamp
  | refuse
deriving DecidableEq, Repr

/-- `SCROLL_CMD3_POLICY` (R8, R168): what a scroll direction field equal to 3 does. -/
inductive ScrollCmd3Policy where
  | noShift
  | refuse
deriving DecidableEq, Repr

/-- `TILE_OOB_POLICY` (R8, R146): what a tile row above 17 or a tile column above 49 does. -/
inductive TileOobPolicy where
  | skip
  | refuse
deriving DecidableEq, Repr

/-- `DURATION_MODE` (R8, R237): the formula of `duration()`. -/
inductive DurationMode where
  | rate
  | doc
  | reference
deriving DecidableEq, Repr

/-- The open parameters of R8. -/
structure Config where
  /-- `FB_INIT`: the framebuffer after reset. -/
  fbInit : Framebuffer
  /-- `MAX_PACKETS`: the largest packet count the model admits. -/
  maxPackets : Nat
  offsetPolicy : OffsetPolicy
  scrollCmd3Policy : ScrollCmd3Policy
  tileOobPolicy : TileOobPolicy
  durationMode : DurationMode
deriving DecidableEq, Repr

/-- The framebuffer with every pixel `c`. -/
def uniformFramebuffer (c : Pixel) : Framebuffer :=
  Vector.replicate 216 (Vector.replicate 300 c)

/-- The defaults of R8. -/
def Config.default : Config where
  fbInit := uniformFramebuffer 0
  maxPackets := 1288490188
  offsetPolicy := .clamp
  scrollCmd3Policy := .noShift
  tileOobPolicy := .skip
  durationMode := .rate

/-- A model may lower `MAX_PACKETS` and not raise it (spec/92_eei_decisions.md D3): at the default bound every
millisecond value still fits in 32 bits (R23). -/
abbrev Config.wf (c : Config) : Prop := c.maxPackets ≤ 1288490188

/-- No parameter is set to `refuse`: under such a setting every packet has an effect (R110). -/
abbrev Config.neverRefuses (c : Config) : Prop :=
  c.offsetPolicy = .clamp ∧ c.scrollCmd3Policy = .noShift ∧ c.tileOobPolicy = .skip

end Sys2Proof
end

