-- ==== Sys2Proof/Machine/Memory.lean ====
section
/-! DEFINITION. The byte-addressed space of the block, the input buffer (spec/20_memory.md R51), as a list of
(offset, byte) pairs in one canonical form: offsets strictly rising. An offset that is not listed holds no byte: it
lies outside 0..INPUT_LEN-1 or in a buffer that was released, and reading it faults. -/

namespace Sys2Proof.Machine

/-- The input buffer: pairs of a byte offset and the byte there. -/
abbrev Memory := List Host.Cell

/-- The canonical form: offsets strictly rising, so that equal buffers are equal lists. -/
abbrev Memory.wf (m : Memory) : Prop := m.Pairwise (fun c d => c.1 < d.1)

/-- The byte at an offset; none where the buffer holds no byte (R51). -/
def Memory.read : Memory → Nat → Option Byte
  | [], _ => none
  | (a, b) :: m, addr => if addr = a then some b else Memory.read m addr

/-- Puts a byte at an offset, keeping the offsets rising. -/
def Memory.write : Memory → Nat → Byte → Memory
  | [], addr, v => [(addr, v)]
  | (a, b) :: m, addr, v =>
      if addr < a then (addr, v) :: (a, b) :: m
      else if addr = a then (addr, v) :: m
      else (a, b) :: Memory.write m addr v

/-- Puts bytes at consecutive offsets, the first at `addr`. -/
def Memory.writeBytes (m : Memory) (addr : Nat) : List Byte → Memory
  | [] => m
  | b :: bs => Memory.writeBytes (m.write addr b) (addr + 1) bs

/-- The cells of a byte sequence whose first byte is at `addr`. -/
def Memory.cellsFrom (addr : Nat) : List Byte → Memory
  | [] => []
  | b :: bs => (addr, b) :: Memory.cellsFrom (addr + 1) bs

/-- The buffer that holds a byte sequence from offset 0, as `open` accepts it (R38, R51). -/
def Memory.ofBytes (bytes : List Byte) : Memory := Memory.cellsFrom 0 bytes

/-- `MemRead(addr, n)`: the bytes at offsets addr .. addr+n-1 (R11, R51); none if one of them is not there. -/
def Memory.readBytes (m : Memory) (addr : Nat) : Nat → Option (List Byte)
  | 0 => some []
  | n + 1 =>
      match m.read addr, m.readBytes (addr + 1) n with
      | some b, some bs => some (b :: bs)
      | _, _ => none

end Sys2Proof.Machine
end

