-- ==== Sys2Proof/Machine/State.lean ====
section
/-! DEFINITION. The state of the decoder (spec/10_state.md R20 to R41), the host's operations as data (spec/46), the
error kinds (spec/60_exceptions.md R261), and the reasons a step can stop. -/

namespace Sys2Proof.Machine

/-- A frame of the timeline: `{start_time_ms, image}` (R33). -/
structure Frame where
  startMs : Millis
  image : Image
deriving DecidableEq, Repr

/-- The error kinds of R261. -/
inductive ErrorKind where
  /-- `open` was given zero bytes. -/
  | emptyInput
  /-- The input length is no multiple of 24: recorded in TRUNCATED, returned by no operation. -/
  | truncatedPacket
  /-- A guarded query before `process` completed. -/
  | queryBeforeProcess
  /-- `frame_at` on a timeline with no frame. -/
  | emptyTimeline
  /-- `process` with IS_OPEN = 0. -/
  | notOpen
  /-- `process` with PROCESSED = 1. -/
  | alreadyProcessed
deriving DecidableEq, Repr

/-- A call of one of the nine host operations (spec/46_host_interface.md). -/
inductive HostCall where
  /-- `open(bytes)` (R230). -/
  | openStream (bytes : List Byte)
  /-- `process()` (R232). -/
  | process
  /-- `frame_at(ms)` (R234); `ms` is a natural number (R241). -/
  | frameAt (ms : Nat)
  /-- `can_skip(ms)` (R235). -/
  | canSkip (ms : Nat)
  /-- `last_update_ms()` (R236). -/
  | lastUpdateMs
  /-- `duration()` (R237). -/
  | duration
  /-- `set_tempo(percent)` (R238); `percent` is an i32, in two's complement. -/
  | setTempo (percent : BitVec 32)
  /-- `tempo()` (R239). -/
  | tempo
  /-- `is_open()` (R240). -/
  | isOpen
deriving DecidableEq, Repr

/-- What a host operation returns: a value, or an error kind (R12, R265). An error of `open` or `process` is the
return value false together with the kind (R261). -/
inductive HostReply where
  | bool (b : Bool)
  | frame (f : Frame)
  | millis (ms : Millis)
  | percent (p : BitVec 32)
  /-- `set_tempo` returns no value. -/
  | done
  | error (k : ErrorKind)
deriving DecidableEq, Repr

/-- Why a step faults. -/
inductive Fault where
  /-- Raised by the packet fetch of `process` when a byte of the packet is not in the input buffer (R51: the
  buffer was released, or the offset is not below INPUT_LEN). Safe: it stops where the spec gives no byte. No state
  that meets `State.Inv` raises it. -/
  | inputUnreadable
  /-- Raised by the frame push when HOFF or VOFF is so far out of its range that a sample lies outside the
  framebuffer (R263: such a violation "may abort"; spec/93 I13: a fault if reached). Safe. No state that meets
  `State.Inv` raises it. -/
  | sampleOutsideFramebuffer
deriving DecidableEq, Repr

/-- Why a step gives no meaning. -/
inductive Refusal where
  /-- Raised by an arm of `exec` whose instruction has no meaning yet: no arm is left. Safe. -/
  | notModelled (mnemonic : String)
  /-- `TileOutOfRange` of R262: raised by a tile packet under `TILE_OOB_POLICY = refuse`. Safe. -/
  | tileOutOfRange
  /-- `ScrollCmd3` of R262: raised by a scroll packet under `SCROLL_CMD3_POLICY = refuse`. Safe. -/
  | scrollCmd3
  /-- `OffsetOutOfRange` of R262: raised by a scroll packet under `OFFSET_POLICY = refuse`. Safe. -/
  | offsetOutOfRange
  /-- `InputTooLong` of R262: raised by `open` on more than MAX_PACKETS packets. Safe. -/
  | inputTooLong
  /-- Raised by every step from a state whose REFUSED mark is set: "After a refusal the model says nothing of any
  later state or result" (R262). Safe. -/
  | afterRefusal
deriving DecidableEq, Repr

/-- Everything the spec gives the decoder (R41), and three fields of the model's own: `running`, `calls` and
`replies` (notes/assumptions/1.md). -/
structure State where
  /-- The parameters of R8; no step writes them. -/
  cfg : Config
  /-- `FB` (R21). -/
  fb : Framebuffer
  /-- `PAL[0..15]` (R24). -/
  pal : Palette
  /-- `POSITION`, the packet count since the start (R23): the part of a program counter. -/
  position : Nat
  /-- `HOFF`, 0..5 in 3 bits (R26). -/
  hoff : BitVec 3
  /-- `VOFF`, 0..11 in 4 bits (R27). -/
  voff : BitVec 4
  /-- `LAST_MP` (R28). -/
  lastMp : Bool
  /-- `NEEDS_UPDATE` (R29). -/
  needsUpdate : Bool
  /-- `LAST_UPDATE_MS` (R30). -/
  lastUpdateMs : Millis
  /-- `FRAMES`, oldest first (R33). -/
  frames : List Frame
  /-- `SKIP`, parallel to `FRAMES` (R34). -/
  skip : List Bool
  /-- `TEMPO`, an i32 in two's complement (R35). -/
  tempo : BitVec 32
  /-- `IS_OPEN` (R36). -/
  isOpen : Bool
  /-- `PROCESSED` (R37). -/
  processed : Bool
  /-- `INPUT` (R38); empty before any `open` and after the release. -/
  input : Memory
  /-- `INPUT_LEN` (R38). -/
  inputLen : Nat
  /-- `TRUNCATED` (R31). -/
  truncated : Bool
  /-- `TRANSPARENT_SEEN` (R32). -/
  transparentSeen : Bool
  /-- `REFUSED`, the model mark (R40). -/
  refused : Bool
  /-- The model's own: `process` has begun and has not returned. -/
  running : Bool
  /-- The model's own: the host's calls that have not begun, the next one first. -/
  calls : List HostCall
  /-- The model's own: what the calls returned, the latest last. -/
  replies : List HostReply
deriving DecidableEq, Repr

/-- A decoder that has just been built: the values of `ResetState()` with REFUSED = 0 (R280, R281) and the default
parameters (R8). No host call is pending. -/
def State.reset : State where
  cfg := Config.default
  fb := Config.default.fbInit
  pal := Vector.replicate 16 0
  position := 0
  hoff := 0
  voff := 0
  lastMp := false
  needsUpdate := false
  lastUpdateMs := 0
  frames := []
  skip := []
  tempo := 100
  isOpen := false
  processed := false
  input := []
  inputLen := 0
  truncated := false
  transparentSeen := false
  refused := false
  running := false
  calls := []
  replies := []

/-- The outcome of an instruction or a step. -/
abbrev Result := Host.Outcome State Fault Refusal

end Sys2Proof.Machine
end

