-- ==== Sys2Proof/Machine/Ops.lean ====
section
/-! DEFINITION. The named operations over the storage spaces and registers (spec/00_scope.md R11, spec/20_memory.md):
reading and building the framebuffer, reading the palette, fetching a packet, writing each register, returning an
error kind and setting the refusal mark. The block has no traps and no exceptions (R260, R265): `State.raise` is the
one way an operation reports an error. -/

namespace Sys2Proof.Machine

/-- The grid whose entry in column x and row y is `f x y`. -/
def Grid.ofFn {α : Type} (w h : Nat) (f : Nat → Nat → α) : Grid w h α :=
  tabulate h fun y => tabulate w fun x => f x y

/-- The entry in column x and row y of a grid, if there is one. -/
def Grid.get {w h : Nat} {α : Type} (g : Grid w h α) (x y : Nat) : Option α :=
  (g[y]?).bind fun row => row[x]?

/-- `FB[x, y]` (R11). No rule reads outside 0..299 by 0..215 (R263), and every meaning reads inside; there the
value is 0 for totality (notes/assumptions/4.md). -/
def pixelAt (fb : Framebuffer) (x y : Nat) : Pixel := (Grid.get fb x y).getD 0

/-- The framebuffer whose pixel (x, y) is `f x y`. -/
def framebufferOf (f : Nat → Nat → Pixel) : Framebuffer := Grid.ofFn 300 216 f

/-- `PAL[i]` for a 4-bit index, which is always in range (R53). -/
def palEntry (pal : Palette) (i : Pixel) : Color := pal[i.toNat]'i.isLt

/-- The palette whose entry i is `f i`. -/
def paletteOf (f : Nat → Color) : Palette := tabulate 16 f

/-- `pkt = MemRead(24 * POSITION, 24)`, the packet the next packet step executes (R57, R100). -/
def State.fetch (s : State) : Option (List Byte) := s.input.readBytes (24 * s.position) 24

/-- Writes the framebuffer. -/
def State.setFb (s : State) (fb : Framebuffer) : State := { s with fb := fb }

/-- Writes the palette. -/
def State.setPal (s : State) (pal : Palette) : State := { s with pal := pal }

/-- Writes HOFF and VOFF (R167). -/
def State.setOffsets (s : State) (h : BitVec 3) (v : BitVec 4) : State := { s with hoff := h, voff := v }

/-- Writes TRANSPARENT_SEEN <- 1 (R196). -/
def State.setTransparentSeen (s : State) : State := { s with transparentSeen := true }

/-- `POSITION <- POSITION + 1` (R106). -/
def State.advance (s : State) : State := { s with position := s.position + 1 }

/-- `TEMPO <- percent` (R238). -/
def State.setTempo (s : State) (percent : BitVec 32) : State := { s with tempo := percent }

/-- `REFUSED <- 1` (R40, R262). -/
def State.markRefused (s : State) : State := { s with refused := true }

/-- Takes the calls left after the first, as the operation begins. -/
def State.setCalls (s : State) (calls : List HostCall) : State := { s with calls := calls }

/-- Hands the host what an operation returned. -/
def State.reply (s : State) (r : HostReply) : State := { s with replies := s.replies ++ [r] }

/-- How a host operation goes on (R12): it returns a value or an error kind with the next state; it has begun and
runs on (`process`); or the model refuses it. -/
inductive CallOutcome where
  | returned (r : HostReply) (s : State)
  | begun (s : State)
  | refused (r : Refusal) (s : State)
deriving DecidableEq, Repr

/-- `raise Error(kind)`: the operation ends and returns the kind, the state as it stands (R11, R265). -/
def State.raise (s : State) (k : ErrorKind) : CallOutcome := .returned (.error k) s

end Sys2Proof.Machine
end

