-- ==== Sys2Proof/Machine/HostOps.lean ====
section
/-! DEFINITION. The nine host operations (spec/46_host_interface.md), each atomic but for `process`, whose packet
steps Machine/Packet.lean gives. -/

namespace Sys2Proof.Machine

/-- The numeric code of an error kind (R261). -/
def ErrorKind.code : ErrorKind → Nat
  | .emptyInput => 1
  | .truncatedPacket => 2
  | .queryBeforeProcess => 3
  | .emptyTimeline => 4
  | .notOpen => 5
  | .alreadyProcessed => 6

/-- The numeric code of what an operation returned: 0 where it succeeded (R261). -/
def HostReply.errorCode : HostReply → Nat
  | .error k => k.code
  | .bool _ => 0
  | .frame _ => 0
  | .millis _ => 0
  | .percent _ => 0
  | .done => 0

/-- `ResetState()` (R280). REFUSED is not touched (R40); the parameters and the model's own `calls` and `replies`
are no state of the block. -/
def State.resetState (s : State) : State :=
  { State.reset with
    cfg := s.cfg
    fb := s.cfg.fbInit
    refused := s.refused
    calls := s.calls
    replies := s.replies }

/-- `open(bytes)` (R230): reset, then EmptyInput, then InputTooLong (R266), then the bytes are accepted. -/
def openStream (bytes : List Byte) (s : State) : CallOutcome :=
  if bytes.length = 0 then s.resetState.raise .emptyInput
  else if s.cfg.maxPackets < bytes.length / 24 then .refused .inputTooLong s.resetState
  else .returned (.bool true)
    { s.resetState with input := Memory.ofBytes bytes, inputLen := bytes.length, isOpen := true }

/-- `process()` begins (R231, R232): NotOpen, then AlreadyProcessed (R266), else it runs. -/
def beginProcess (s : State) : CallOutcome :=
  if s.isOpen = false then s.raise .notOpen
  else if s.processed = true then s.raise .alreadyProcessed
  else .begun { s with running := true }

/-- `QueryGuard()` before a query (R233). -/
def guardedQuery (s : State) (answer : HostReply) : CallOutcome :=
  if s.processed = true then .returned answer s else s.raise .queryBeforeProcess

/-- `ceil_q(a, b)`: the least integer at or above a / b (R10). -/
def ceilQ (a : Int) (b : Nat) : Int := -((-a) / (b : Int))

/-- `QueryIndex(ms) = ceil_q(ms * TEMPO, 4000)`, exact (R241). -/
def queryIndex (s : State) (ms : Nat) : Int := ceilQ ((ms : Int) * s.tempo.toInt) 4000

/-- The index `frame_at` answers with: a negative one clamped to 0, one at or beyond the end to the last (R234). -/
def frameIndex (s : State) (ms : Nat) : Nat :=
  if queryIndex s ms < 0 then 0
  else if (s.frames.length : Int) ≤ queryIndex s ms then s.frames.length - 1
  else (queryIndex s ms).toNat

/-- The answer of `frame_at(ms)` once the guard is passed (R234). -/
def frameAtAnswer (ms : Nat) (s : State) : HostReply :=
  match s.frames[frameIndex s ms]? with
  | some f => .frame f
  | none => .error .emptyTimeline

/-- `frame_at(ms)` (R234). -/
def frameAt (ms : Nat) (s : State) : CallOutcome := guardedQuery s (frameAtAnswer ms s)

/-- `SKIP[i]` for an index in range (R235). -/
def skipBit (s : State) (i : Int) : Bool := (s.skip[i.toNat]?).getD false

/-- The answer of `can_skip(ms)` (R235): no clamp, and false out of range. -/
def canSkipAnswer (ms : Nat) (s : State) : Bool :=
  if queryIndex s ms - 1 < 0 ∨ (s.skip.length : Int) ≤ queryIndex s ms + 1 then false
  else skipBit s (queryIndex s ms - 1) && skipBit s (queryIndex s ms) && skipBit s (queryIndex s ms + 1)

/-- `can_skip(ms)` (R235). -/
def canSkip (ms : Nat) (s : State) : CallOutcome := guardedQuery s (.bool (canSkipAnswer ms s))

/-- `last_update_ms()` (R236). -/
def lastUpdate (s : State) : CallOutcome := guardedQuery s (.millis s.lastUpdateMs)

/-- The value of `duration()` under each DURATION_MODE, N being INPUT_LEN div 24 (R237). -/
def durationMs (s : State) : Millis :=
  match s.cfg.durationMode with
  | .rate => BitVec.ofNat 32 (s.inputLen / 24 * 1000 / 300)
  | .doc => BitVec.ofNat 32 (s.inputLen / 24 * 40)
  | .reference => BitVec.ofNat 32 (s.inputLen * 40)

/-- `duration()` (R237). -/
def duration (s : State) : CallOutcome := guardedQuery s (.millis (durationMs s))

/-- A call of a host operation, by name. -/
def perform (c : HostCall) (s : State) : CallOutcome :=
  match c with
  | .openStream bytes => openStream bytes s
  | .process => beginProcess s
  | .frameAt ms => frameAt ms s
  | .canSkip ms => canSkip ms s
  | .lastUpdateMs => lastUpdate s
  | .duration => duration s
  | .setTempo percent => .returned .done (s.setTempo percent)
  | .tempo => .returned (.percent s.tempo) s
  | .isOpen => .returned (.bool s.isOpen) s

/-- One step while no `process` runs: the next host call takes place whole (R289); with none pending the block does
nothing (R272). -/
def serveCall (s : State) : Result :=
  match s.calls with
  | [] => .next s
  | c :: rest =>
      match perform c (s.setCalls rest) with
      | .returned r t => .next (t.reply r)
      | .begun t => .next t
      | .refused _ t => .next t.markRefused

end Sys2Proof.Machine
end

