-- ==== Sys2Proof/Syntax.lean ====
section
/-! DEFINITION. The nine CD+G instructions of spec/30_encoding.md R78 with their operands (R75 to R80), one
constructor for each row of spec/opcode_table.json. A field has the width of its place in the packet. A packet
that is no instruction (not CD+G, R81, or a reserved code, R82) has no constructor here: `Decoded` of
Sys2Proof/Decode.lean names it, and the packet step gives it its effect. -/

namespace Sys2Proof

/-- `h_cmd` (R77): 0 none, 1 right 6 px, 2 left 6 px, 3 not defined by the source. -/
inductive HCmd where
  | stay
  | right
  | left
  | three
deriving DecidableEq, Repr

/-- `v_cmd` (R77): 0 none, 1 down 12 px, 2 up 12 px, 3 not defined by the source. -/
inductive VCmd where
  | stay
  | down
  | up
  | three
deriving DecidableEq, Repr

/-- The instruction set (R3, R78). -/
inductive Instr where
  /-- MEMORY_PRESET, format P (R120). -/
  | memoryPreset (color rep : BitVec 4)
  /-- BORDER_PRESET, format P (R130). -/
  | borderPreset (color : BitVec 4)
  /-- TILE_NORMAL, format T (R140): `rows` holds the low six bits of data[4] to data[15]. -/
  | tileNormal (color0 color1 : BitVec 4) (row : BitVec 5) (column : BitVec 6) (rows : Vector (BitVec 6) 12)
  /-- SCROLL_PRESET, format S (R160). -/
  | scrollPreset (color : BitVec 4) (hCmd : HCmd) (hOffset : BitVec 3) (vCmd : VCmd) (vOffset : BitVec 4)
  /-- SCROLL_COPY, format S (R160): the colour field is not used. -/
  | scrollCopy (hCmd : HCmd) (hOffset : BitVec 3) (vCmd : VCmd) (vOffset : BitVec 4)
  /-- DEFINE_TRANSPARENT, format X (R80): no operands. -/
  | defineTransparent
  /-- LOAD_COLORS_LOW, format C (R190): colour k of the payload goes to entry k. -/
  | loadColorsLow (colors : Vector Rgb12 8)
  /-- LOAD_COLORS_HIGH, format C (R190): colour k of the payload goes to entry 8 + k. -/
  | loadColorsHigh (colors : Vector Rgb12 8)
  /-- TILE_XOR, format T (R140). -/
  | tileXor (color0 color1 : BitVec 4) (row : BitVec 5) (column : BitVec 6) (rows : Vector (BitVec 6) 12)
deriving DecidableEq, Repr

/-- The instruction is Memory Preset: what `LAST_MP` records (R104). -/
def Instr.isMemoryPreset : Instr → Bool
  | .memoryPreset _ _ => true
  | .borderPreset _ => false
  | .tileNormal _ _ _ _ _ => false
  | .scrollPreset _ _ _ _ _ => false
  | .scrollCopy _ _ _ _ => false
  | .defineTransparent => false
  | .loadColorsLow _ => false
  | .loadColorsHigh _ => false
  | .tileXor _ _ _ _ _ => false

end Sys2Proof
end

