-- ==== Sys2Proof/WellFormed.lean ====
section
/-! DEFINITION. Which instructions hold no reserved field value (spec/30_encoding.md R84). Every term of `Instr`
has an encoding, and every one has an effect under the default parameters (R110); the values checked here are the
ones the spec calls valid in R76 and R77, and an instruction that fails a check is one the `refuse` setting of a
parameter of R8 may turn away. -/

namespace Sys2Proof

/-- The tile lies on the framebuffer: row 0..17 and column 0..49 (R76, R146). -/
def tileInRange (row : BitVec 5) (column : BitVec 6) : Bool :=
  decide (row.toNat < 18) && decide (column.toNat < 50)

/-- Neither direction field is 3 (R77, R168). -/
def scrollCmdsDefined (hCmd : HCmd) (vCmd : VCmd) : Bool :=
  decide (hCmd ≠ .three) && decide (vCmd ≠ .three)

/-- The offset fields are in 0..5 and 0..11 (R77, R169). -/
def offsetsInRange (hOffset : BitVec 3) (vOffset : BitVec 4) : Bool :=
  decide (hOffset.toNat ≤ 5) && decide (vOffset.toNat ≤ 11)

/-- No field of the instruction holds a reserved value (R84). -/
def Instr.wellFormed : Instr → Bool
  | .memoryPreset _ _ => true
  | .borderPreset _ => true
  | .tileNormal _ _ row column _ => tileInRange row column
  | .scrollPreset _ hCmd hOffset vCmd vOffset => scrollCmdsDefined hCmd vCmd && offsetsInRange hOffset vOffset
  | .scrollCopy hCmd hOffset vCmd vOffset => scrollCmdsDefined hCmd vCmd && offsetsInRange hOffset vOffset
  | .defineTransparent => true
  | .loadColorsLow _ => true
  | .loadColorsHigh _ => true
  | .tileXor _ _ row column _ => tileInRange row column

end Sys2Proof
end

