-- ==== Sys2Proof/Decode.lean ====
section
/-! DEFINITION. The packet decoder and encoder (spec/30_encoding.md): `decode` is total on any bytes and names
what is no instruction; `encode` follows R86. -/

namespace Sys2Proof

/-- What the packet reader and dispatcher make of a byte sequence. -/
inductive Decoded where
  /-- A CD+G packet with one of the nine codes of R78. -/
  | instr (i : Instr)
  /-- A CD+G packet with a reserved code (R82). -/
  | reserved (code : BitVec 6)
  /-- A packet whose command field is not 0x09 (R81). -/
  | notCdg
  /-- Not 24 bytes, so no packet (R70). -/
  | notAPacket
deriving DecidableEq, Repr

/-- Byte `k` of a packet, `pkt[k]` of R11. -/
def pktByte (pkt : List Byte) (k : Nat) : Byte := pkt.getD k 0

/-- `data[k] = pkt[4 + k]` (R72). -/
def dataByte (pkt : List Byte) (k : Nat) : Byte := pktByte pkt (4 + k)

/-- `cmd = pkt[0][5:0]` (R73). -/
def cmdField (pkt : List Byte) : BitVec 6 := (pktByte pkt 0).extractLsb' 0 6

/-- `ins = pkt[1][5:0]` (R74). -/
def insField (pkt : List Byte) : BitVec 6 := (pktByte pkt 1).extractLsb' 0 6

/-- The direction a 2-bit `h_cmd` field names (R77). -/
def HCmd.ofBits (b : BitVec 2) : HCmd :=
  match b.toNat with
  | 0 => .stay
  | 1 => .right
  | 2 => .left
  | _ => .three

/-- The bits of an `h_cmd` (R77). -/
def HCmd.toBits : HCmd → BitVec 2
  | .stay => 0
  | .right => 1
  | .left => 2
  | .three => 3

/-- The direction a 2-bit `v_cmd` field names (R77). -/
def VCmd.ofBits (b : BitVec 2) : VCmd :=
  match b.toNat with
  | 0 => .stay
  | 1 => .down
  | 2 => .up
  | _ => .three

/-- The bits of a `v_cmd` (R77). -/
def VCmd.toBits : VCmd → BitVec 2
  | .stay => 0
  | .down => 1
  | .up => 2
  | .three => 3

/-- The twelve pixel rows of format T: `data[4+i][5:0]` (R76). -/
def tileRows (pkt : List Byte) : Vector (BitVec 6) 12 :=
  tabulate 12 fun i => (dataByte pkt (4 + i)).extractLsb' 0 6

/-- Colour k of format C, from the byte pair `data[2k]`, `data[2k+1]` (R79, R190). -/
def payloadColor (pkt : List Byte) (k : Nat) : Rgb12 where
  r := (dataByte pkt (2 * k)).extractLsb' 2 4
  g := (dataByte pkt (2 * k)).extractLsb' 0 2 ++ (dataByte pkt (2 * k + 1)).extractLsb' 4 2
  b := (dataByte pkt (2 * k + 1)).extractLsb' 0 4

/-- The eight colours of format C (R79). -/
def payloadColors (pkt : List Byte) : Vector Rgb12 8 :=
  tabulate 8 fun k => payloadColor pkt k

/-- The instruction of a CD+G packet, by its code (R78, R109), with its operands (R75 to R80). -/
def decodeCdg (pkt : List Byte) : Decoded :=
  match (insField pkt).toNat with
  | 0x01 => .instr (.memoryPreset ((dataByte pkt 0).extractLsb' 0 4) ((dataByte pkt 1).extractLsb' 0 4))
  | 0x02 => .instr (.borderPreset ((dataByte pkt 0).extractLsb' 0 4))
  | 0x06 => .instr (.tileNormal ((dataByte pkt 0).extractLsb' 0 4) ((dataByte pkt 1).extractLsb' 0 4)
      ((dataByte pkt 2).extractLsb' 0 5) ((dataByte pkt 3).extractLsb' 0 6) (tileRows pkt))
  | 0x14 => .instr (.scrollPreset ((dataByte pkt 0).extractLsb' 0 4)
      (HCmd.ofBits ((dataByte pkt 1).extractLsb' 4 2)) ((dataByte pkt 1).extractLsb' 0 3)
      (VCmd.ofBits ((dataByte pkt 2).extractLsb' 4 2)) ((dataByte pkt 2).extractLsb' 0 4))
  | 0x18 => .instr (.scrollCopy
      (HCmd.ofBits ((dataByte pkt 1).extractLsb' 4 2)) ((dataByte pkt 1).extractLsb' 0 3)
      (VCmd.ofBits ((dataByte pkt 2).extractLsb' 4 2)) ((dataByte pkt 2).extractLsb' 0 4))
  | 0x1C => .instr .defineTransparent
  | 0x1E => .instr (.loadColorsLow (payloadColors pkt))
  | 0x1F => .instr (.loadColorsHigh (payloadColors pkt))
  | 0x26 => .instr (.tileXor ((dataByte pkt 0).extractLsb' 0 4) ((dataByte pkt 1).extractLsb' 0 4)
      ((dataByte pkt 2).extractLsb' 0 5) ((dataByte pkt 3).extractLsb' 0 6) (tileRows pkt))
  | _ => .reserved (insField pkt)

/-- Decoding a byte sequence: a packet is exactly 24 bytes (R70), a CD+G packet if and only if its command field
is 0x09 (R73), and then the instruction its code selects (R78), or a reserved code (R82). -/
def decode (pkt : List Byte) : Decoded :=
  if pkt.length = 24 then
    if cmdField pkt = 0x09 then decodeCdg pkt else .notCdg
  else .notAPacket

/-- The code of an instruction (R78). -/
def Instr.code : Instr → BitVec 6
  | .memoryPreset _ _ => 0x01
  | .borderPreset _ => 0x02
  | .tileNormal _ _ _ _ _ => 0x06
  | .scrollPreset _ _ _ _ _ => 0x14
  | .scrollCopy _ _ _ _ => 0x18
  | .defineTransparent => 0x1C
  | .loadColorsLow _ => 0x1E
  | .loadColorsHigh _ => 0x1F
  | .tileXor _ _ _ _ _ => 0x26

/-- The two payload bytes of a colour: `0 0 r r r r g g` and `0 0 g g b b b b` (R58, R86). -/
def Rgb12.payload (c : Rgb12) : List Byte :=
  [(0#2 ++ c.r ++ c.g.extractLsb' 2 2 : BitVec 8), (0#2 ++ c.g.extractLsb' 0 2 ++ c.b : BitVec 8)]

/-- The payload of format T (R76). -/
def tilePayload (color0 color1 : BitVec 4) (row : BitVec 5) (column : BitVec 6) (rows : Vector (BitVec 6) 12) :
    List Byte :=
  [color0.setWidth 8, color1.setWidth 8, row.setWidth 8, column.setWidth 8]
    ++ rows.toList.map fun r => r.setWidth 8

/-- Bytes data[1] and data[2] of format S (R77). -/
def scrollBytes (hCmd : HCmd) (hOffset : BitVec 3) (vCmd : VCmd) (vOffset : BitVec 4) : List Byte :=
  [(0#2 ++ hCmd.toBits ++ 0#1 ++ hOffset : BitVec 8), (0#2 ++ vCmd.toBits ++ vOffset : BitVec 8)]

/-- The sixteen payload bytes of an instruction, every bit that no field uses 0 (R86). -/
def Instr.payload : Instr → List Byte
  | .memoryPreset color rep => [color.setWidth 8, rep.setWidth 8] ++ List.replicate 14 0
  | .borderPreset color => [color.setWidth 8] ++ List.replicate 15 0
  | .tileNormal color0 color1 row column rows => tilePayload color0 color1 row column rows
  | .scrollPreset color hCmd hOffset vCmd vOffset =>
      [color.setWidth 8] ++ scrollBytes hCmd hOffset vCmd vOffset ++ List.replicate 13 0
  | .scrollCopy hCmd hOffset vCmd vOffset =>
      [0] ++ scrollBytes hCmd hOffset vCmd vOffset ++ List.replicate 13 0
  | .defineTransparent => List.replicate 16 0
  | .loadColorsLow colors => colors.toList.flatMap Rgb12.payload
  | .loadColorsHigh colors => colors.toList.flatMap Rgb12.payload
  | .tileXor color0 color1 row column rows => tilePayload color0 color1 row column rows

/-- The packet with a command byte, an instruction byte and a payload, the six parity bytes 0 (R71, R86). -/
def packetOf (command instruction : Byte) (payload : List Byte) : List Byte :=
  [command, instruction, 0, 0] ++ payload ++ [0, 0, 0, 0]

/-- The encoding of an instruction (R86). -/
def encode (i : Instr) : List Byte := packetOf 0x09 (i.code.setWidth 8) i.payload

/-- `NOP` of R87: the all-zero packet. -/
def nopPacket : List Byte := List.replicate 24 0

/-- `RESERVED ins=<v>` of R87. -/
def reservedPacket (code : BitVec 6) : List Byte := packetOf 0x09 (code.setWidth 8) (List.replicate 16 0)

/-- The packet of a row's bits as spec/opcode_table.json numbers them: 16-bit words, `pkt[0]:pkt[1]` with `pkt[0]`
the high byte of the first word (R78), a later word's bits counted on from it; a bit at or above `nbits` is 0. -/
def tablePacket (nbits w : Nat) : List Byte :=
  (List.range 24).map fun k =>
    BitVec.ofNat 8 ((w % 2 ^ nbits) >>> (8 * (if k % 2 = 0 then k + 1 else k - 1)))

/-- The instruction the decoder reads from a row's bits. -/
def decodeTableWord (nbits w : Nat) : Option Instr :=
  match decode (tablePacket nbits w) with
  | .instr i => some i
  | .reserved _ => none
  | .notCdg => none
  | .notAPacket => none

end Sys2Proof
end

