-- ==== Sys2Proof/Machine/Flags.lean ====
section
/-! DEFINITION. The flags (spec/10_state.md R28 to R30): `MarkUpdate` and the `LAST_MP` assignment. -/

namespace Sys2Proof.Machine

/-- The stream time of packet count p in milliseconds, `(p * 1000) div 300`, as a u32 (R107, R215). At or below
MAX_PACKETS no bit is lost (R23). -/
def streamMs (p : Nat) : Millis := BitVec.ofNat 32 (p * 1000 / 300)

/-- `MarkUpdate(p)` with p the packet's index, which POSITION still holds while the packet's instruction takes
effect (R105, R107). -/
def State.markUpdate (s : State) : State := { s with needsUpdate := true, lastUpdateMs := streamMs s.position }

/-- `LAST_MP <- b` (R104). -/
def State.setLastMp (s : State) (b : Bool) : State := { s with lastMp := b }

end Sys2Proof.Machine
end

