-- ==== Sys2Proof/Machine/Operands.lean ====
section
/-! DEFINITION. The operand forms: tile pixels (spec/42_tile_block.md R141, R142), scroll offsets (spec/43_scroll.md
R169) and colours (spec/44_palette.md R191). -/

namespace Sys2Proof.Machine

/-- `bit(i, j)`: bit 5 - j of pixel row i, column 0 leftmost (R142). -/
def tileBit (rows : Vector (BitVec 6) 12) (i j : Nat) : Bool := ((rows[i]?).getD 0).getLsbD (5 - j)

/-- `chosen(i, j)`: color1 where the bit is set, else color0 (R142). -/
def chosenColor (color0 color1 : Pixel) (rows : Vector (BitVec 6) 12) (i j : Nat) : Pixel :=
  if tileBit rows i j then color1 else color0

/-- Pixel (x, y) lies in the tile's rectangle `[column*6, column*6+6) × [row*12, row*12+12)` (R141, R145). -/
def inTile (row : BitVec 5) (column : BitVec 6) (x y : Nat) : Bool :=
  decide (column.toNat * 6 ≤ x) && decide (x < column.toNat * 6 + 6)
    && decide (row.toNat * 12 ≤ y) && decide (y < row.toNat * 12 + 12)

/-- Pixel (x, y) lies in the outer border (R22, R131). -/
def inBorder (x y : Nat) : Bool :=
  decide (y < 12) || decide (204 ≤ y) || decide (x < 6) || decide (294 ≤ x)

/-- `Hoff(h) = min(h, 5)` (R169). -/
def clampHOffset (h : BitVec 3) : BitVec 3 := if 5 < h.toNat then 5 else h

/-- `Voff(v) = min(v, 11)` (R169). -/
def clampVOffset (v : BitVec 4) : BitVec 4 := if 11 < v.toNat then 11 else v

/-- `(c << 4) | c`: a 4-bit channel expanded to 8 bits (R191). -/
def expandChannel (c : BitVec 4) : BitVec 8 := (c.setWidth 8 <<< 4) ||| c.setWidth 8

/-- `Expand(r, g, b)` (R191), packed 0xRRGGBB (R59). -/
def expandColor (c : Rgb12) : Color := expandChannel c.r ++ expandChannel c.g ++ expandChannel c.b

end Sys2Proof.Machine
end

