-- ==== Sys2Proof/Machine/Colors.lean ====
section
/-! DEFINITION. Load Colors Low and High, and Define Transparent (spec/44_palette.md). -/

namespace Sys2Proof.Machine

/-- The palette after entries base .. base+7 take the expanded colours 0..7 (R192). -/
def loadPalette (base : Nat) (colors : Vector Rgb12 8) (pal : Palette) : Palette :=
  paletteOf fun i =>
    if h : base ≤ i ∧ i < base + 8 then expandColor (colors[i - base]'(by omega)) else (pal[i]?).getD 0

/-- `changed`: some entry base + k differs from the expanded colour k (R192). -/
def colorsChange (base : Nat) (colors : Vector Rgb12 8) (pal : Palette) : Bool :=
  (List.range 8).any fun k => decide (pal[base + k]? ≠ (colors[k]?).map expandColor)

/-- `LoadColors(data, p, base)` of R192. -/
def loadColors (base : Nat) (colors : Vector Rgb12 8) (s : State) : State :=
  if colorsChange base colors s.pal then (s.setPal (loadPalette base colors s.pal)).markUpdate
  else s.setPal (loadPalette base colors s.pal)

/-- LOAD_COLORS_LOW (R192). -/
def execLoadColorsLow (colors : Vector Rgb12 8) (s : State) : Result := .next (loadColors 0 colors s)

/-- LOAD_COLORS_HIGH (R193). -/
def execLoadColorsHigh (colors : Vector Rgb12 8) (s : State) : Result := .next (loadColors 8 colors s)

/-- DEFINE_TRANSPARENT (R196). -/
def execDefineTransparent (s : State) : Result := .next s.setTransparentSeen

end Sys2Proof.Machine
end

