-- ==== Sys2Proof/Machine/Preset.lean ====
section
/-! DEFINITION. Memory Preset and Border Preset (spec/41_preset.md). -/

namespace Sys2Proof.Machine

/-- A Memory Preset is suppressed: the previous CD+G packet was a Memory Preset too and `repeat ≠ 0` (R121). -/
def presetSuppressed (rep : BitVec 4) (s : State) : Bool := s.lastMp && decide (rep ≠ 0)

/-- MEMORY_PRESET (R121). -/
def execMemoryPreset (color rep : BitVec 4) (s : State) : Result :=
  if presetSuppressed rep s then .next s
  else .next (s.setFb (framebufferOf fun _ _ => color)).markUpdate

/-- BORDER_PRESET (R131). -/
def execBorderPreset (color : BitVec 4) (s : State) : Result :=
  .next (s.setFb (framebufferOf fun x y => if inBorder x y then color else pixelAt s.fb x y)).markUpdate

end Sys2Proof.Machine
end

