-- ==== Sys2Proof/Machine/Scroll.lean ====
section
/-! DEFINITION. Scroll Preset and Scroll Copy (spec/43_scroll.md). -/

namespace Sys2Proof.Machine

/-- How a scroll fills the vacated strip (R162). -/
inductive ScrollMode where
  | preset (color : Pixel)
  | copy
deriving DecidableEq, Repr

/-- `fill(a, b)` of R162: the wrapped pixel for Scroll Copy, the colour for Scroll Preset. -/
def ScrollMode.fill (mode : ScrollMode) (fb : Framebuffer) (a b : Nat) : Pixel :=
  match mode with
  | .preset color => color
  | .copy => pixelAt fb a b

/-- Shift right 6 (R163). -/
def shiftRight6 (mode : ScrollMode) (fb : Framebuffer) : Framebuffer :=
  framebufferOf fun x y => if 6 ≤ x then pixelAt fb (x - 6) y else mode.fill fb (x + 294) y

/-- Shift left 6 (R164). -/
def shiftLeft6 (mode : ScrollMode) (fb : Framebuffer) : Framebuffer :=
  framebufferOf fun x y => if x ≤ 293 then pixelAt fb (x + 6) y else mode.fill fb (x - 294) y

/-- Shift down 12 (R165). -/
def shiftDown12 (mode : ScrollMode) (fb : Framebuffer) : Framebuffer :=
  framebufferOf fun x y => if 12 ≤ y then pixelAt fb x (y - 12) else mode.fill fb x (y + 204)

/-- Shift up 12 (R166). -/
def shiftUp12 (mode : ScrollMode) (fb : Framebuffer) : Framebuffer :=
  framebufferOf fun x y => if y ≤ 203 then pixelAt fb x (y + 12) else mode.fill fb x (y - 204)

/-- The horizontal coarse shift; value 3 shifts nothing (R168, R170). -/
def shiftH (mode : ScrollMode) (cmd : HCmd) (fb : Framebuffer) : Framebuffer :=
  match cmd with
  | .stay => fb
  | .right => shiftRight6 mode fb
  | .left => shiftLeft6 mode fb
  | .three => fb

/-- The vertical coarse shift; value 3 shifts nothing (R168, R170). -/
def shiftV (mode : ScrollMode) (cmd : VCmd) (fb : Framebuffer) : Framebuffer :=
  match cmd with
  | .stay => fb
  | .down => shiftDown12 mode fb
  | .up => shiftUp12 mode fb
  | .three => fb

/-- `CheckPolicies`: the refusal a scroll packet meets under a `refuse` setting (R168 to R170), if any. -/
def scrollRefusal (cfg : Config) (hCmd : HCmd) (hOffset : BitVec 3) (vCmd : VCmd) (vOffset : BitVec 4) :
    Option Refusal :=
  if cfg.scrollCmd3Policy = .refuse ∧ scrollCmdsDefined hCmd vCmd = false then some .scrollCmd3
  else if cfg.offsetPolicy = .refuse ∧ offsetsInRange hOffset vOffset = false then some .offsetOutOfRange
  else none

/-- `Scroll` of R170: the checks, the horizontal shift, the vertical shift, the two offsets, `MarkUpdate`. -/
def scroll (mode : ScrollMode) (hCmd : HCmd) (hOffset : BitVec 3) (vCmd : VCmd) (vOffset : BitVec 4) (s : State) :
    Result :=
  match scrollRefusal s.cfg hCmd hOffset vCmd vOffset with
  | some r => .refused r
  | none => .next (((s.setFb (shiftV mode vCmd (shiftH mode hCmd s.fb))).setOffsets
      (clampHOffset hOffset) (clampVOffset vOffset)).markUpdate)

/-- SCROLL_PRESET (R170). -/
def execScrollPreset (color : BitVec 4) (hCmd : HCmd) (hOffset : BitVec 3) (vCmd : VCmd) (vOffset : BitVec 4)
    (s : State) : Result :=
  scroll (.preset color) hCmd hOffset vCmd vOffset s

/-- SCROLL_COPY (R171). -/
def execScrollCopy (hCmd : HCmd) (hOffset : BitVec 3) (vCmd : VCmd) (vOffset : BitVec 4) (s : State) : Result :=
  scroll .copy hCmd hOffset vCmd vOffset s

end Sys2Proof.Machine
end

