-- ==== Sys2Proof/Machine/Tile.lean ====
section
/-! DEFINITION. Tile Block Normal and Tile Block XOR (spec/42_tile_block.md). -/

namespace Sys2Proof.Machine

/-- The framebuffer with the tile at (row, column) drawn: each pixel of its rectangle is `combine old chosen`, every
other pixel is as before (R141, R142, R145). -/
def drawTile (combine : Pixel → Pixel → Pixel) (color0 color1 : Pixel) (row : BitVec 5) (column : BitVec 6)
    (rows : Vector (BitVec 6) 12) (fb : Framebuffer) : Framebuffer :=
  framebufferOf fun x y =>
    if inTile row column x y then
      combine (pixelAt fb x y) (chosenColor color0 color1 rows (y - row.toNat * 12) (x - column.toNat * 6))
    else pixelAt fb x y

/-- `TileOutOfRange(p)`: under `skip` no pixel is written and the update is still marked (R146). -/
def tileOutOfRange (s : State) : Result :=
  match s.cfg.tileOobPolicy with
  | .refuse => .refused .tileOutOfRange
  | .skip => .next s.markUpdate

/-- Both tile instructions: the check of R146, then the drawing and `MarkUpdate`. -/
def tileBlock (combine : Pixel → Pixel → Pixel) (color0 color1 : Pixel) (row : BitVec 5) (column : BitVec 6)
    (rows : Vector (BitVec 6) 12) (s : State) : Result :=
  if tileInRange row column then
    .next (s.setFb (drawTile combine color0 color1 row column rows s.fb)).markUpdate
  else tileOutOfRange s

/-- TILE_NORMAL (R143): the pixel is replaced. -/
def execTileNormal (color0 color1 : BitVec 4) (row : BitVec 5) (column : BitVec 6) (rows : Vector (BitVec 6) 12)
    (s : State) : Result :=
  tileBlock (fun _ chosen => chosen) color0 color1 row column rows s

/-- TILE_XOR (R144): the pixel is XORed with the chosen colour. -/
def execTileXor (color0 color1 : BitVec 4) (row : BitVec 5) (column : BitVec 6) (rows : Vector (BitVec 6) 12)
    (s : State) : Result :=
  tileBlock (fun old chosen => old ^^^ chosen) color0 color1 row column rows s

end Sys2Proof.Machine
end

