-- ==== Sys2Proof/Machine/Dispatch.lean ====
section
/-! DEFINITION. The command dispatcher (spec/40_packet_dispatch.md R109): the effect of each of the nine
instructions. The LAST_MP assignment, the position and the frame push of a packet step are in Machine/Packet.lean. -/

namespace Sys2Proof.Machine

def exec (i : Instr) (s : State) : Host.Outcome State Fault Refusal :=
  match i with
  | .memoryPreset color rep => Sys2Proof.Machine.execMemoryPreset color rep s
  | .borderPreset color => Sys2Proof.Machine.execBorderPreset color s
  | .tileNormal color0 color1 row column rows => Sys2Proof.Machine.execTileNormal color0 color1 row column rows s
  | .scrollPreset color hCmd hOffset vCmd vOffset => Sys2Proof.Machine.execScrollPreset color hCmd hOffset vCmd vOffset s
  | .scrollCopy hCmd hOffset vCmd vOffset => Sys2Proof.Machine.execScrollCopy hCmd hOffset vCmd vOffset s
  | .defineTransparent => Sys2Proof.Machine.execDefineTransparent s
  | .loadColorsLow colors => Sys2Proof.Machine.execLoadColorsLow colors s
  | .loadColorsHigh colors => Sys2Proof.Machine.execLoadColorsHigh colors s
  | .tileXor color0 color1 row column rows => Sys2Proof.Machine.execTileXor color0 color1 row column rows s

end Sys2Proof.Machine
end

