-- ==== Sys2Proof/Machine/Viewport.lean ====
section
/-! DEFINITION. The viewport sampler and the frame timeline (spec/45_viewport_timeline.md). -/

namespace Sys2Proof.Machine

/-- Every sample `FB[6 + HOFF + x, 12 + VOFF + y]` lies inside the framebuffer (R212). -/
def sampleInside (s : State) : Bool :=
  decide (6 + s.hoff.toNat + 287 < 300) && decide (12 + s.voff.toNat + 191 < 216)

/-- The sample `FB[6 + HOFF + x, 12 + VOFF + y]` behind window pixel (x, y) (R210). -/
def sampleAt (s : State) (x y : Nat) : Pixel := pixelAt s.fb (6 + s.hoff.toNat + x) (12 + s.voff.toNat + y)

/-- `SampleIndexed()`: the 288 × 192 window as palette indices (R210). -/
def sampleIndexed (s : State) : Grid 288 192 Pixel := Grid.ofFn 288 192 fun x y => sampleAt s x y

/-- `SampleRGB()`: the window resolved through the current palette (R211). -/
def sampleRgb (s : State) : Image := Grid.ofFn 288 192 fun x y => palEntry s.pal (sampleAt s x y)

/-- The frame a push would append now (R213, R215). -/
def currentFrame (s : State) : Frame where
  startMs := streamMs s.position
  image := sampleRgb s

/-- The writes of `FramePush()`: one frame, one skip bit, and NEEDS_UPDATE cleared last (R213, R214). -/
def State.pushFrame (s : State) : State :=
  { s with frames := s.frames ++ [currentFrame s], skip := s.skip ++ [!s.needsUpdate], needsUpdate := false }

/-- `FramePush()` (R213). Offsets out of range by so much that a sample misses the framebuffer abort (R263). -/
def framePush (s : State) : Result :=
  if sampleInside s then .next s.pushFrame else .fault .sampleOutsideFramebuffer

end Sys2Proof.Machine
end

