-- ==== Sys2Proof/Machine/Packet.lean ====
section
/-! DEFINITION. The packet step (spec/40_packet_dispatch.md R105) and one step of `process` (R100, R101, R232). -/

namespace Sys2Proof.Machine

/-- The end of a packet step: the position increment, then the frame push when the new position is a multiple of
12 (R105, R106). -/
def finishPacket (s : State) : Result :=
  if (s.position + 1) % 12 = 0 then framePush s.advance else .next s.advance

/-- The packet step of a CD+G packet that holds an instruction: its effect, `LAST_MP <- (ins == 0x01)`, then the end
of the step (R104, R105). A refusal sets the mark and does nothing else (R262). -/
def instrStep (i : Instr) (s : State) : Result :=
  match exec i s with
  | .next t => finishPacket (t.setLastMp i.isMemoryPreset)
  | .fault f => .fault f
  | .refused _ => .next s.markRefused

/-- `PacketStep(pkt)` (R105): an instruction of R78; a reserved code, which clears LAST_MP (R103); a packet that is
no CD+G packet, which changes nothing before the end of the step (R102). -/
def packetStep (pkt : List Byte) (s : State) : Result :=
  match decode pkt with
  | .instr i => instrStep i s
  | .reserved _ => finishPacket (s.setLastMp false)
  | .notCdg => finishPacket s
  | .notAPacket => .fault .inputUnreadable

/-- What `process` does after the last complete packet: TRUNCATED <- 1 if a tail is left (R101), the input is
released and its length kept, PROCESSED <- 1 (R232). -/
def State.endProcess (s : State) : State :=
  { s with
    truncated := s.truncated || decide (s.inputLen % 24 ≠ 0)
    input := []
    processed := true
    running := false }

/-- One step of a `process` that has begun: the packet step of packet POSITION while there is one (R100), and then
the end of the operation, which returns true (R232). -/
def processStep (s : State) : Result :=
  if s.position < s.inputLen / 24 then
    match s.fetch with
    | some pkt => packetStep pkt s
    | none => .fault .inputUnreadable
  else .next (s.endProcess.reply (.bool true))

end Sys2Proof.Machine
end

