-- ==== Sys2Proof/Machine/Step.lean ====
section
/-! DEFINITION. One step of the decoder: a packet step of a running `process`, or else the next host call. -/

namespace Sys2Proof.Machine

/-- One step. After a refusal the model says nothing more (R262); while `process` runs its packets are executed in
order with nothing between them (R63, R65); otherwise the host's next call takes place. -/
def step (s : State) : Host.Outcome State Fault Refusal :=
  if s.refused = true then .refused .afterRefusal
  else if s.running = true then processStep s
  else serveCall s

/-- The state with a packet where the next packet step fetches it, offset 24 * POSITION of the input buffer (R57), and
with all that a packet step needs: the input reaching past that packet, the decoder open, `process` running, no
refusal. It stands for the load of a program from outside (notes/assumptions/2.md). -/
def State.withFetchWord (s : State) (nbits w : Nat) : State :=
  { s with
    input := s.input.writeBytes (24 * s.position) (tablePacket nbits w)
    inputLen := max s.inputLen (24 * s.position + 24)
    isOpen := true
    processed := false
    running := true
    refused := false }

end Sys2Proof.Machine
end

