-- ==== Sys2Proof/Safety.lean ====
section
/-! DEFINITION. What claims mean by a state of a healthy decoder (`State.Inv`), by the register values the spec gives
for reset (`State.AtReset`), and by the packets that mark an update (`marksUpdate`). -/

namespace Sys2Proof.Machine

/-- The byte at every offset below INPUT_LEN is there while the input is held, and no other byte is (R38, R51). -/
abbrev State.InputReadable (s : State) : Prop :=
  ∀ a, (s.input.read a).isSome = (s.isOpen && !s.processed && decide (a < s.inputLen))

/-- Every palette entry is the expansion of a 12-bit colour (R24). -/
abbrev State.PaletteExpanded (s : State) : Prop :=
  ∀ i : Pixel, ∃ c : Rgb12, palEntry s.pal i = expandColor c

/-- Frame i starts at 40 * (i + 1) ms (R215). -/
abbrev State.FrameTimes (s : State) : Prop :=
  ∀ (i : Nat) (f : Frame), s.frames[i]? = some f → f.startMs.toNat = 40 * (i + 1)

/-- The state of a decoder that keeps the spec's promises: offset ranges (R26, R27), the palette's form (R24), the
timeline's length and times (R34, R215, R216), the update flag cleared by the push (R214), the position's bound (R23), the input buffer (R38, R51), and the three
lifecycle phases (R267). -/
structure State.Inv (s : State) : Prop where
  cfgWf : s.cfg.wf
  hoffRange : s.hoff.toNat ≤ 5
  voffRange : s.voff.toNat ≤ 11
  paletteExpanded : s.PaletteExpanded
  skipParallel : s.skip.length = s.frames.length
  frameCount : s.frames.length = s.position / 12
  frameTimes : s.FrameTimes
  positionBound : s.position ≤ s.inputLen / 24
  inputBound : s.inputLen / 24 ≤ s.cfg.maxPackets
  groupStart : s.position % 12 = 0 → s.needsUpdate = false
  updateTime : s.lastUpdateMs.toNat ≤ s.position * 1000 / 300
  inputWf : s.input.wf
  inputReadable : s.InputReadable
  closedPhase : s.isOpen = false → s.processed = false ∧ s.running = false ∧ s.inputLen = 0
  runningPhase : s.running = true → s.isOpen = true ∧ s.processed = false
  openPhase : s.isOpen = true → s.processed = false → s.running = false → s.position = 0
  processedPhase : s.processed = true → s.position = s.inputLen / 24
  truncatedPhase : s.truncated = true → s.processed = true ∧ s.inputLen % 24 ≠ 0

/-- Every register holds the value R280 gives, and the parameters, REFUSED and the model's own fields are not
spoken of. -/
structure State.AtReset (s : State) : Prop where
  fb : s.fb = s.cfg.fbInit
  pal : ∀ i : Pixel, palEntry s.pal i = 0
  position : s.position = 0
  hoff : s.hoff = 0
  voff : s.voff = 0
  lastMp : s.lastMp = false
  needsUpdate : s.needsUpdate = false
  lastUpdateMs : s.lastUpdateMs = 0
  frames : s.frames = []
  skip : s.skip = []
  tempo : s.tempo.toInt = 100
  isOpen : s.isOpen = false
  processed : s.processed = false
  input : s.input = []
  inputLen : s.inputLen = 0
  truncated : s.truncated = false
  transparentSeen : s.transparentSeen = false

/-- The instruction performs `MarkUpdate` in this state, under parameters that never refuse (R29): Memory Preset when
it fills, Border Preset, both Tile Blocks, both Scrolls, and Load Colors when an entry changes. -/
def instrMarks (i : Instr) (s : State) : Bool :=
  match i with
  | .memoryPreset _ rep => !presetSuppressed rep s
  | .borderPreset _ => true
  | .tileNormal _ _ _ _ _ => true
  | .scrollPreset _ _ _ _ _ => true
  | .scrollCopy _ _ _ _ => true
  | .defineTransparent => false
  | .loadColorsLow colors => colorsChange 0 colors s.pal
  | .loadColorsHigh colors => colorsChange 8 colors s.pal
  | .tileXor _ _ _ _ _ => true

/-- The packet performs `MarkUpdate` in this state (R29): never a reserved code, never a packet that is not CD+G. -/
def marksUpdate (pkt : List Byte) (s : State) : Bool :=
  match decode pkt with
  | .instr i => instrMarks i s
  | .reserved _ => false
  | .notCdg => false
  | .notAPacket => false

/-- The column a Scroll Preset takes the new column x from; none where the strip is filled (R163, R164). -/
def presetSourceX (cmd : HCmd) (x : Nat) : Option Nat :=
  match cmd with
  | .right => if 6 ≤ x then some (x - 6) else none
  | .left => if x < 294 then some (x + 6) else none
  | .stay => some x
  | .three => some x

/-- The row a Scroll Preset takes the new row y from; none where the strip is filled (R165, R166). -/
def presetSourceY (cmd : VCmd) (y : Nat) : Option Nat :=
  match cmd with
  | .down => if 12 ≤ y then some (y - 12) else none
  | .up => if y < 204 then some (y + 12) else none
  | .stay => some y
  | .three => some y

/-- The column a Scroll Copy takes the new column x from: `(x - 6) mod 300` or `(x + 6) mod 300` (R166). -/
def copySourceX (cmd : HCmd) (x : Nat) : Nat :=
  match cmd with
  | .right => (x + 294) % 300
  | .left => (x + 6) % 300
  | .stay => x
  | .three => x

/-- The row a Scroll Copy takes the new row y from: `(y - 12) mod 216` or `(y + 12) mod 216` (R166). -/
def copySourceY (cmd : VCmd) (y : Nat) : Nat :=
  match cmd with
  | .down => (y + 204) % 216
  | .up => (y + 12) % 216
  | .stay => y
  | .three => y

/-- The outcome with its next state changed by `f`; a fault or a refusal stays. -/
def mapNext (f : State → State) (r : Result) : Result :=
  match r with
  | .next t => .next (f t)
  | .fault e => .fault e
  | .refused e => .refused e

end Sys2Proof.Machine
end

