-- ==== Sys2Proof/Certificates/Slice0/Obligations.lean ====
section
/-! DEFINITION. The statements about the model, for the provers. Each docstring names the rules of spec/ the
statement comes from, and says where it rests on a decision the spec marks as its own (spec/92_eei_decisions.md) or
on a choice of the model (notes/assumptions). -/

open Sys2Proof Sys2Proof.Machine

/-! ### Encoding -/

/-- Words written out from the encodings of R71, R72, R75, R77, R78 and R80 and the vectors of spec/95 decode to their
instructions. The second word rests on two decisions: D16 (its parity bytes and bits 7:6 are ignored,
notes/assumptions/19.md) and D9 (the colour bits of Border Preset, notes/assumptions/14.md). -/
def Obligations.WrittenOutPacketsDecode : Prop :=
  decode [0x09, 0x01, 0, 0, 0x05, 0x0B, 0, 0, 0, 0, 0, 0, 0, 0, 0, 0, 0, 0, 0, 0, 0, 0, 0, 0] =
      .instr (.memoryPreset 5 11) ∧
    decode [0xC9, 0x42, 7, 7, 0xF6, 0xFF, 0, 0, 0, 0, 0, 0, 0, 0, 0, 0, 0, 0, 0, 0, 9, 9, 9, 9] =
      .instr (.borderPreset 6) ∧
    decode [0x09, 0x18, 0, 0, 0x07, 0x13, 0x2B, 0, 0, 0, 0, 0, 0, 0, 0, 0, 0, 0, 0, 0, 0, 0, 0, 0] =
      .instr (.scrollCopy .right 3 .up 11) ∧
    decode [0x09, 0x1C, 0, 0, 0, 0, 0, 0, 0, 0, 0, 0, 0, 0, 0, 0, 0, 0, 0, 0, 0, 0, 0, 0] =
      .instr .defineTransparent

/-- R73: a 24-byte packet is a CD+G packet if and only if the low six bits of its first byte are 0x09, whatever its
bits 7:6; any other packet is skipped: it changes nothing but the position, and may trigger the frame push. -/
def Obligations.CdgPacketIffCommandField : Prop :=
  ∀ pkt : List Byte, pkt.length = 24 →
    (decode pkt ≠ .notCdg ↔ pkt.getD 0 0 &&& 0x3F#8 = 0x09#8) ∧
    (pkt.getD 0 0 &&& 0x3F#8 ≠ 0x09#8 → ∀ s : State,
      packetStep pkt s =
        let u := { s with position := s.position + 1 }
        if u.position % 12 = 0 then framePush u else .next u)

/-- R74, R78: the low six bits of the second byte select the instruction, in a CD+G packet only: exactly the nine
codes of the table give one, each its own, and any other code is reserved. -/
def Obligations.InstructionFieldSelects : Prop :=
  ∀ pkt : List Byte, pkt.length = 24 →
    (pkt.getD 0 0 &&& 0x3F#8 ≠ 0x09#8 → decode pkt = .notCdg) ∧
    (pkt.getD 0 0 &&& 0x3F#8 = 0x09#8 →
      match (pkt.getD 1 0 &&& 0x3F#8).toNat with
      | 1 => ∃ c r, decode pkt = .instr (.memoryPreset c r)
      | 2 => ∃ c, decode pkt = .instr (.borderPreset c)
      | 6 => ∃ c d r k rows, decode pkt = .instr (.tileNormal c d r k rows)
      | 20 => ∃ c h ho v vo, decode pkt = .instr (.scrollPreset c h ho v vo)
      | 24 => ∃ h ho v vo, decode pkt = .instr (.scrollCopy h ho v vo)
      | 28 => decode pkt = .instr .defineTransparent
      | 30 => ∃ cs, decode pkt = .instr (.loadColorsLow cs)
      | 31 => ∃ cs, decode pkt = .instr (.loadColorsHigh cs)
      | 38 => ∃ c d r k rows, decode pkt = .instr (.tileXor c d r k rows)
      | n => decode pkt = .reserved (BitVec.ofNat 6 n))

/-- R71, R72 and decision D16: decoding reads only bits 5:0 of the command, instruction and payload bytes; the six
parity bytes and every bit 7:6 are ignored. -/
def Obligations.ParityBitsIgnored : Prop :=
  ∀ p q : List Byte, p.length = 24 → q.length = 24 →
    (∀ k, k < 2 ∨ (4 ≤ k ∧ k < 20) → p.getD k 0 &&& 0x3F#8 = q.getD k 0 &&& 0x3F#8) →
    decode p = decode q

/-- R75, and decision D9 for Border Preset: the colour is data[0][3:0], the repeat count data[1][3:0]. -/
def Obligations.PresetOperandPlaces : Prop :=
  ∀ (pkt : List Byte) (c r : BitVec 4),
    (decode pkt = .instr (.memoryPreset c r) →
      c.toNat = (pkt.getD 4 0).toNat % 16 ∧ r.toNat = (pkt.getD 5 0).toNat % 16) ∧
    (decode pkt = .instr (.borderPreset c) → c.toNat = (pkt.getD 4 0).toNat % 16)

/-- R76: the two colours, the row, the column and the twelve pixel rows of both tile instructions. -/
def Obligations.TileOperandPlaces : Prop :=
  ∀ (pkt : List Byte) (c0 c1 : BitVec 4) (row : BitVec 5) (column : BitVec 6) (rows : Vector (BitVec 6) 12),
    decode pkt = .instr (.tileNormal c0 c1 row column rows) ∨ decode pkt = .instr (.tileXor c0 c1 row column rows) →
    c0.toNat = (pkt.getD 4 0).toNat % 16 ∧ c1.toNat = (pkt.getD 5 0).toNat % 16 ∧
    row.toNat = (pkt.getD 6 0).toNat % 32 ∧ column.toNat = (pkt.getD 7 0).toNat % 64 ∧
    ∀ i : Fin 12, rows[i].toNat = (pkt.getD (8 + i) 0).toNat % 64

/-- R77, and decision D9 for the colour of Scroll Preset: the direction and offset fields of both scroll
instructions. -/
def Obligations.ScrollOperandPlaces : Prop :=
  ∀ (pkt : List Byte) (c : BitVec 4) (h : HCmd) (ho : BitVec 3) (v : VCmd) (vo : BitVec 4),
    (decode pkt = .instr (.scrollPreset c h ho v vo) → c.toNat = (pkt.getD 4 0).toNat % 16) ∧
    (decode pkt = .instr (.scrollPreset c h ho v vo) ∨ decode pkt = .instr (.scrollCopy h ho v vo) →
      h = [HCmd.stay, .right, .left, .three].getD ((pkt.getD 5 0).toNat / 16 % 4) .stay ∧
      ho.toNat = (pkt.getD 5 0).toNat % 8 ∧
      v = [VCmd.stay, .down, .up, .three].getD ((pkt.getD 6 0).toNat / 16 % 4) .stay ∧
      vo.toNat = (pkt.getD 6 0).toNat % 16)

/-- R190 and R79, with decision D37 for which byte pair is which colour: colour k is `0 0 r r r r g g` and
`0 0 g g b b b b` in data[2k] and data[2k+1]. -/
def Obligations.ColorOperandPlaces : Prop :=
  ∀ (pkt : List Byte) (colors : Vector Rgb12 8),
    decode pkt = .instr (.loadColorsLow colors) ∨ decode pkt = .instr (.loadColorsHigh colors) →
    ∀ k : Fin 8,
      colors[k].r.toNat = (pkt.getD (4 + 2 * k) 0).toNat / 4 % 16 ∧
      colors[k].g.toNat = (pkt.getD (4 + 2 * k) 0).toNat % 4 * 4 + (pkt.getD (5 + 2 * k) 0).toNat / 16 % 4 ∧
      colors[k].b.toNat = (pkt.getD (5 + 2 * k) 0).toNat % 16

/-- Decode and encode agree on every instruction, with every operand at every value its field admits; the encoding
is the one decision D31 fixes (R86). -/
def Obligations.DecodeEncodeRoundTrip : Prop :=
  ∀ i : Instr, decode (encode i) = .instr i

/-! ### Memory Preset and Border Preset -/

/-- R121: after a Memory Preset, a Memory Preset with `repeat ≠ 0` changes nothing; any other fills all 64 800 pixels
and marks the update at the packet's start (decision D6). Nothing else changes. -/
def Obligations.MemoryPresetFillsOrIsSuppressed : Prop :=
  ∀ (color rep : BitVec 4) (s : State),
    (s.lastMp = true ∧ rep ≠ 0 → exec (.memoryPreset color rep) s = .next s) ∧
    (¬(s.lastMp = true ∧ rep ≠ 0) →
      ∃ fb, exec (.memoryPreset color rep) s =
          .next { s with fb := fb, needsUpdate := true, lastUpdateMs := BitVec.ofNat 32 (s.position * 1000 / 300) } ∧
        ∀ x y, x < 300 → y < 216 → pixelAt fb x y = color)

/-- R131: the border takes the colour, the safe area keeps its pixels, the update is marked (decision D6 for its
time), nothing else changes. -/
def Obligations.BorderPresetFillsBorderOnly : Prop :=
  ∀ (color : BitVec 4) (s : State),
    ∃ fb, exec (.borderPreset color) s =
        .next { s with fb := fb, needsUpdate := true, lastUpdateMs := BitVec.ofNat 32 (s.position * 1000 / 300) } ∧
      ∀ x y, x < 300 → y < 216 →
        pixelAt fb x y = if y < 12 ∨ 204 ≤ y ∨ x < 6 ∨ 294 ≤ x then color else pixelAt s.fb x y

/-- R123: of two consecutive Memory Presets, the second with `repeat ≠ 0` and the first not itself a suppressed one,
the first fills and the second does nothing, whatever their colours. -/
def Obligations.ConsecutivePresetsFillOnce : Prop :=
  ∀ (c1 c2 r1 r2 : BitVec 4) (s : State), s.lastMp = false ∨ r1 = 0 → r2 ≠ 0 → s.hoff.toNat ≤ 5 → s.voff.toNat ≤ 11 →
    ∃ t, instrStep (.memoryPreset c1 r1) s = .next t ∧ (∀ x y, x < 300 → y < 216 → pixelAt t.fb x y = c1) ∧
      exec (.memoryPreset c2 r2) t = .next t

/-! ### Tile blocks -/

/-- R141 to R143: on a tile of the framebuffer, Tile Normal replaces pixel (i, j) by color1 where bit 5 - j of pixel
row i is set, else by color0, and marks the update (decision D6 for its time); every other pixel and every other
register is as before. -/
def Obligations.TileNormalDrawsChosenColors : Prop :=
  ∀ (c0 c1 : BitVec 4) (row : BitVec 5) (column : BitVec 6) (rows : Vector (BitVec 6) 12) (s : State),
    row.toNat < 18 → column.toNat < 50 →
    ∃ fb, exec (.tileNormal c0 c1 row column rows) s =
        .next { s with fb := fb, needsUpdate := true, lastUpdateMs := BitVec.ofNat 32 (s.position * 1000 / 300) } ∧
      (∀ (i : Fin 12) (j : Fin 6), pixelAt fb (column.toNat * 6 + j) (row.toNat * 12 + i) =
        if rows[i].getLsbD (5 - j) then c1 else c0) ∧
      ∀ x y, x < 300 → y < 216 →
        ¬(column.toNat * 6 ≤ x ∧ x < column.toNat * 6 + 6 ∧ row.toNat * 12 ≤ y ∧ y < row.toNat * 12 + 12) →
        pixelAt fb x y = pixelAt s.fb x y

/-- R141, R142, R144: Tile XOR XORs pixel (i, j) with the chosen colour and marks the update (decision D6 for its
time); every other pixel and every other register is as before. -/
def Obligations.TileXorCombinesChosenColors : Prop :=
  ∀ (c0 c1 : BitVec 4) (row : BitVec 5) (column : BitVec 6) (rows : Vector (BitVec 6) 12) (s : State),
    row.toNat < 18 → column.toNat < 50 →
    ∃ fb, exec (.tileXor c0 c1 row column rows) s =
        .next { s with fb := fb, needsUpdate := true, lastUpdateMs := BitVec.ofNat 32 (s.position * 1000 / 300) } ∧
      (∀ (i : Fin 12) (j : Fin 6), pixelAt fb (column.toNat * 6 + j) (row.toNat * 12 + i) =
        pixelAt s.fb (column.toNat * 6 + j) (row.toNat * 12 + i) ^^^
          (if rows[i].getLsbD (5 - j) then c1 else c0)) ∧
      ∀ x y, x < 300 → y < 216 →
        ¬(column.toNat * 6 ≤ x ∧ x < column.toNat * 6 + 6 ∧ row.toNat * 12 ≤ y ∧ y < row.toNat * 12 + 12) →
        pixelAt fb x y = pixelAt s.fb x y

/-- The spec's decision D15 (R146): a tile off the framebuffer writes no pixel and still marks the update under
`TILE_OOB_POLICY = skip`, and is refused by name under `refuse`. -/
def Obligations.TileOffFramebuffer : Prop :=
  ∀ (c0 c1 : BitVec 4) (row : BitVec 5) (column : BitVec 6) (rows : Vector (BitVec 6) 12) (s : State),
    18 ≤ row.toNat ∨ 50 ≤ column.toNat →
    (s.cfg.tileOobPolicy = .skip →
      exec (.tileNormal c0 c1 row column rows) s =
        .next { s with needsUpdate := true, lastUpdateMs := BitVec.ofNat 32 (s.position * 1000 / 300) } ∧
      exec (.tileXor c0 c1 row column rows) s =
        .next { s with needsUpdate := true, lastUpdateMs := BitVec.ofNat 32 (s.position * 1000 / 300) }) ∧
    (s.cfg.tileOobPolicy = .refuse →
      exec (.tileNormal c0 c1 row column rows) s = .refused .tileOutOfRange ∧
      exec (.tileXor c0 c1 row column rows) s = .refused .tileOutOfRange)

/-- R145: whatever the packet, no pixel outside `[column*6, column*6+6) × [row*12, row*12+12)` is mutated by a tile
instruction that completes, and for row ≤ 17 and column ≤ 49 that rectangle lies inside the framebuffer. -/
def Obligations.TileFootprint : Prop :=
  (∀ (c0 c1 : BitVec 4) (row : BitVec 5) (column : BitVec 6) (rows : Vector (BitVec 6) 12) (s t : State),
    exec (.tileNormal c0 c1 row column rows) s = .next t ∨ exec (.tileXor c0 c1 row column rows) s = .next t →
    ∀ x y, x < 300 → y < 216 → pixelAt t.fb x y ≠ pixelAt s.fb x y →
      column.toNat * 6 ≤ x ∧ x < column.toNat * 6 + 6 ∧ row.toNat * 12 ≤ y ∧ y < row.toNat * 12 + 12) ∧
  ∀ (row : BitVec 5) (column : BitVec 6) (i : Fin 12) (j : Fin 6), row.toNat ≤ 17 → column.toNat ≤ 49 →
    column.toNat * 6 + j < 300 ∧ row.toNat * 12 + i < 216

/-- R144: the same Tile XOR applied twice restores every pixel. -/
def Obligations.TileXorTwiceRestores : Prop :=
  ∀ (c0 c1 : BitVec 4) (row : BitVec 5) (column : BitVec 6) (rows : Vector (BitVec 6) 12) (s : State),
    s.cfg.tileOobPolicy = .skip ∨ (row.toNat < 18 ∧ column.toNat < 50) →
    ∃ t u, exec (.tileXor c0 c1 row column rows) s = .next t ∧ exec (.tileXor c0 c1 row column rows) t = .next u ∧
      u.fb = s.fb ∧ u.needsUpdate = true

/-! ### Scrolls -/

/-- Scroll Preset (R162 to R170) in the directions of decision D10, with the colour's bits of D9, direction value 3 of
D11, the offsets clamped by D12, the shifts of D13, and the update always marked (D14, at the time of D6): where no
`refuse` setting turns the packet away, each pixel comes from its source or is the colour, both offsets are written,
and nothing else changes. -/
def Obligations.ScrollPresetShiftsAndFills : Prop :=
  ∀ (color : BitVec 4) (h : HCmd) (ho : BitVec 3) (v : VCmd) (vo : BitVec 4) (s : State),
    s.cfg.scrollCmd3Policy = .noShift ∨ (h ≠ .three ∧ v ≠ .three) →
    s.cfg.offsetPolicy = .clamp ∨ (ho.toNat ≤ 5 ∧ vo.toNat ≤ 11) →
    ∃ fb hoff voff, exec (.scrollPreset color h ho v vo) s =
        .next { s with fb := fb, hoff := hoff, voff := voff, needsUpdate := true,
                       lastUpdateMs := BitVec.ofNat 32 (s.position * 1000 / 300) } ∧
      hoff.toNat = min ho.toNat 5 ∧ voff.toNat = min vo.toNat 11 ∧
      ∀ x y, x < 300 → y < 216 →
        pixelAt fb x y =
          match presetSourceX h x, presetSourceY v y with
          | some a, some b => pixelAt s.fb a b
          | _, _ => color

/-- Scroll Copy (R162 to R169, R171) in the directions of decision D10, with direction value 3 of D11, the offsets
clamped by D12, and the update always marked (D14, at the time of D6): each pixel comes from its source, wrapped
around the framebuffer, both offsets are written, and nothing else changes. -/
def Obligations.ScrollCopyRotates : Prop :=
  ∀ (h : HCmd) (ho : BitVec 3) (v : VCmd) (vo : BitVec 4) (s : State),
    s.cfg.scrollCmd3Policy = .noShift ∨ (h ≠ .three ∧ v ≠ .three) →
    s.cfg.offsetPolicy = .clamp ∨ (ho.toNat ≤ 5 ∧ vo.toNat ≤ 11) →
    ∃ fb hoff voff, exec (.scrollCopy h ho v vo) s =
        .next { s with fb := fb, hoff := hoff, voff := voff, needsUpdate := true,
                       lastUpdateMs := BitVec.ofNat 32 (s.position * 1000 / 300) } ∧
      hoff.toNat = min ho.toNat 5 ∧ voff.toNat = min vo.toNat 11 ∧
      ∀ x y, x < 300 → y < 216 → pixelAt fb x y = pixelAt s.fb (copySourceX h x) (copySourceY v y)

/-- Decisions D11 and D12 (R168, R169): under a `refuse` setting a scroll packet with the value it names is refused,
and by no other name (R266 leaves open which, where both apply: the model's choice is the direction's,
notes/assumptions/6.md). -/
def Obligations.ScrollRefusedByPolicy : Prop :=
  ∀ (color : BitVec 4) (h : HCmd) (ho : BitVec 3) (v : VCmd) (vo : BitVec 4) (s : State),
    (s.cfg.scrollCmd3Policy = .refuse → h = .three ∨ v = .three →
      exec (.scrollPreset color h ho v vo) s = .refused .scrollCmd3 ∧
      exec (.scrollCopy h ho v vo) s = .refused .scrollCmd3) ∧
    (s.cfg.offsetPolicy = .refuse → 5 < ho.toNat ∨ 11 < vo.toNat →
      s.cfg.scrollCmd3Policy = .noShift ∨ (h ≠ .three ∧ v ≠ .three) →
      exec (.scrollPreset color h ho v vo) s = .refused .offsetOutOfRange ∧
      exec (.scrollCopy h ho v vo) s = .refused .offsetOutOfRange)

/-- R172: Scroll Copy right then left, left then right, down then up, and up then down restore the framebuffer bit for
bit, whatever the two packets' offsets; a horizontal and a vertical coarse shift commute, for Scroll Copy and for
Scroll Preset with one colour; and after every scroll instruction HOFF ≤ 5 and VOFF ≤ 11. -/
def Obligations.ScrollRoundTripCommuteAndRange : Prop :=
  (∀ (h h' : HCmd) (v v' : VCmd) (ho ho' : BitVec 3) (vo vo' : BitVec 4) (s : State),
    s.cfg.offsetPolicy = .clamp ∨ (ho.toNat ≤ 5 ∧ vo.toNat ≤ 11 ∧ ho'.toNat ≤ 5 ∧ vo'.toNat ≤ 11) →
    ((h, h') = (.right, .left) ∨ (h, h') = (.left, .right)) ∧ v = .stay ∧ v' = .stay ∨
      ((v, v') = (.down, .up) ∨ (v, v') = (.up, .down)) ∧ h = .stay ∧ h' = .stay →
    ∃ t u, exec (.scrollCopy h ho v vo) s = .next t ∧ exec (.scrollCopy h' ho' v' vo') t = .next u ∧ u.fb = s.fb) ∧
  (∀ (mode : ScrollMode) (h : HCmd) (v : VCmd) (fb : Framebuffer),
    shiftV mode v (shiftH mode h fb) = shiftH mode h (shiftV mode v fb)) ∧
  ∀ (color : BitVec 4) (h : HCmd) (ho : BitVec 3) (v : VCmd) (vo : BitVec 4) (s t : State),
    exec (.scrollPreset color h ho v vo) s = .next t ∨ exec (.scrollCopy h ho v vo) s = .next t →
    t.hoff.toNat ≤ 5 ∧ t.voff.toNat ≤ 11

/-- R171: fifty rotations right by 6, or eighteen down by 12, restore the framebuffer. -/
def Obligations.FullRotationRestores : Prop :=
  ∀ fb : Framebuffer, (shiftRight6 .copy)^[50] fb = fb ∧ (shiftDown12 .copy)^[18] fb = fb

/-! ### Colours -/

/-- R191, packed by decision D27: each 4-bit channel c becomes the byte `(c << 4) | c`, red highest. -/
def Obligations.ColorExpansion : Prop :=
  ∀ c : Rgb12, (expandColor c).toNat =
    (c.r.toNat * 16 + c.r.toNat) * 65536 + (c.g.toNat * 16 + c.g.toNat) * 256 + (c.b.toNat * 16 + c.b.toNat)

/-- R192: entries 0..7 take the eight expanded colours, entries 8..15 stay, and the update is marked (decision D6 for
its time) exactly when some entry changes; with no change the state is as before. -/
def Obligations.LoadColorsLowWritesLowHalf : Prop :=
  ∀ (colors : Vector Rgb12 8) (s : State),
    ((∀ k : Fin 8, palEntry s.pal (BitVec.ofNat 4 k) = expandColor colors[k]) →
      exec (.loadColorsLow colors) s = .next s) ∧
    ((∃ k : Fin 8, palEntry s.pal (BitVec.ofNat 4 k) ≠ expandColor colors[k]) →
      ∃ pal, exec (.loadColorsLow colors) s =
          .next { s with pal := pal, needsUpdate := true,
                         lastUpdateMs := BitVec.ofNat 32 (s.position * 1000 / 300) } ∧
        (∀ k : Fin 8, palEntry pal (BitVec.ofNat 4 k) = expandColor colors[k]) ∧
        ∀ k : Fin 8, palEntry pal (BitVec.ofNat 4 (8 + k)) = palEntry s.pal (BitVec.ofNat 4 (8 + k)))

/-- R193: as R192 for entries 8..15. -/
def Obligations.LoadColorsHighWritesHighHalf : Prop :=
  ∀ (colors : Vector Rgb12 8) (s : State),
    ((∀ k : Fin 8, palEntry s.pal (BitVec.ofNat 4 (8 + k)) = expandColor colors[k]) →
      exec (.loadColorsHigh colors) s = .next s) ∧
    ((∃ k : Fin 8, palEntry s.pal (BitVec.ofNat 4 (8 + k)) ≠ expandColor colors[k]) →
      ∃ pal, exec (.loadColorsHigh colors) s =
          .next { s with pal := pal, needsUpdate := true,
                         lastUpdateMs := BitVec.ofNat 32 (s.position * 1000 / 300) } ∧
        (∀ k : Fin 8, palEntry pal (BitVec.ofNat 4 (8 + k)) = expandColor colors[k]) ∧
        ∀ k : Fin 8, palEntry pal (BitVec.ofNat 4 k) = palEntry s.pal (BitVec.ofNat 4 k))

/-- R194, for Low and for High: a Load Colors of the colours the entries already hold changes nothing, so it leaves
NEEDS_UPDATE unset where it was unset; one applied twice has the effect of one; and none clears a NEEDS_UPDATE that an
earlier packet set. -/
def Obligations.LoadColorsIdempotent : Prop :=
  ∀ (colors : Vector Rgb12 8) (s : State),
    ((∀ k : Fin 8, palEntry s.pal (BitVec.ofNat 4 k) = expandColor colors[k]) →
      exec (.loadColorsLow colors) s = .next s) ∧
    ((∀ k : Fin 8, palEntry s.pal (BitVec.ofNat 4 (8 + k)) = expandColor colors[k]) →
      exec (.loadColorsHigh colors) s = .next s) ∧
    (∃ t, exec (.loadColorsLow colors) s = .next t ∧ exec (.loadColorsLow colors) t = .next t ∧
      (s.needsUpdate = true → t.needsUpdate = true)) ∧
    ∃ t, exec (.loadColorsHigh colors) s = .next t ∧ exec (.loadColorsHigh colors) t = .next t ∧
      (s.needsUpdate = true → t.needsUpdate = true)

/-- R196, with decision D17 for the bit that records it: Define Transparent sets TRANSPARENT_SEEN and changes nothing
else. -/
def Obligations.DefineTransparentRecordsOnly : Prop :=
  ∀ s : State, exec .defineTransparent s = .next { s with transparentSeen := true }

/-! ### The packet step -/

/-- R105: when the packet at POSITION decodes to the instruction i, a step is exec of i, then `LAST_MP <- (ins == 1)`,
then the position increment, then the frame push when the position is a multiple of 12; a refusal sets the mark and
does nothing else (notes/assumptions/3.md). -/
def Obligations.StepRunsDecodedInstruction : Prop :=
  ∀ (s : State) (pkt : List Byte) (i : Instr),
    s.refused = false → s.running = true → s.position < s.inputLen / 24 →
    s.input.readBytes (24 * s.position) 24 = some pkt → decode pkt = .instr i →
    step s =
      match exec i s with
      | .next t =>
          let u := { t with lastMp := i.isMemoryPreset, position := t.position + 1 }
          if u.position % 12 = 0 then framePush u else .next u
      | .fault f => .fault f
      | .refused _ => .next { s with refused := true }

/-- Decision D8 (R103, R104): a CD+G packet with a reserved code clears LAST_MP and does nothing more before the
position increment and the frame push. -/
def Obligations.ReservedCodeClearsPresetFlag : Prop :=
  ∀ (s : State) (pkt : List Byte) (code : BitVec 6),
    s.refused = false → s.running = true → s.position < s.inputLen / 24 →
    s.input.readBytes (24 * s.position) 24 = some pkt → decode pkt = .reserved code →
    step s =
      let u := { s with lastMp := false, position := s.position + 1 }
      if u.position % 12 = 0 then framePush u else .next u

/-- R81, R102: when the packet at POSITION has a command field other than 0x09, in any of the four settings of bits
7:6, a step changes nothing but the position and may trigger the frame push; nothing traps. -/
def Obligations.OtherSubcodePacketIsSkipped : Prop :=
  ∀ (s : State) (pkt : List Byte),
    s.refused = false → s.running = true → s.position < s.inputLen / 24 →
    s.input.readBytes (24 * s.position) 24 = some pkt → pkt.getD 0 0 &&& 0x3F#8 ≠ 0x09#8 →
    step s =
      let u := { s with position := s.position + 1 }
      if u.position % 12 = 0 then framePush u else .next u

/-- R57, R108: packet k of a held input is the bytes 24k .. 24k+23, byte i of it at offset 24k + i; a step at POSITION
k executes that packet; and whatever it holds, the next packet is packet k + 1 of the same input. -/
def Obligations.PacketsAreFetchedInOrder : Prop :=
  ∀ (bytes : List Byte) (s : State), s.input = Memory.ofBytes bytes → s.inputLen = bytes.length →
    s.position < s.inputLen / 24 → s.refused = false → s.running = true →
    ∃ pkt : List Byte, pkt.length = 24 ∧ (∀ i, i < 24 → pkt[i]? = bytes[24 * s.position + i]?) ∧
      step s = packetStep pkt s ∧
      ∀ t, step s = .next t → t.refused = false →
        t.position = s.position + 1 ∧ t.input = s.input ∧ t.inputLen = s.inputLen ∧ t.running = true

/-- R260: whatever its 24 bytes, a packet completes its step and raises nothing, from every state with its offsets in
range, and the offsets stay in range; where no `refuse` setting is made it is not refused and the position advances by
exactly 1 (R106). A packet that a `refuse` setting turns away, which R110 excepts, completes its step by the model's
choice only: its next state has REFUSED set (notes/assumptions/3.md). -/
def Obligations.EveryPacketCompletes : Prop :=
  ∀ (pkt : List Byte) (s : State), pkt.length = 24 → s.hoff.toNat ≤ 5 → s.voff.toNat ≤ 11 →
    ∃ t, packetStep pkt s = .next t ∧ t.cfg = s.cfg ∧ t.hoff.toNat ≤ 5 ∧ t.voff.toNat ≤ 11 ∧ t.replies = s.replies ∧
      (s.cfg.neverRefuses → t.refused = s.refused ∧ t.position = s.position + 1)

/-- R104, by decision D8: every CD+G packet whose step completes leaves LAST_MP saying whether it was a Memory Preset
(code 1), and every other packet leaves LAST_MP alone. -/
def Obligations.PresetFlagFollowsLastCommand : Prop :=
  ∀ (pkt : List Byte) (s t : State), packetStep pkt s = .next t → t.refused = false →
    t.lastMp =
      if pkt.getD 0 0 &&& 0x3F#8 = 0x09#8 then decide (pkt.getD 1 0 &&& 0x3F#8 = 0x01#8) else s.lastMp

/-- R111: a packet step that changes the framebuffer, the palette, an offset, LAST_MP, LAST_UPDATE_MS,
TRANSPARENT_SEEN or the refusal mark, or sets NEEDS_UPDATE, is that of a CD+G packet (a push clears NEEDS_UPDATE for
any packet); no packet step changes the tempo, the lifecycle bits or the input. -/
def Obligations.OnlyCdgPacketsChangeState : Prop :=
  ∀ (pkt : List Byte) (s t : State), packetStep pkt s = .next t →
    (t.fb ≠ s.fb ∨ t.pal ≠ s.pal ∨ t.hoff ≠ s.hoff ∨ t.voff ≠ s.voff ∨ t.lastMp ≠ s.lastMp ∨
        t.lastUpdateMs ≠ s.lastUpdateMs ∨ t.transparentSeen ≠ s.transparentSeen ∨ t.refused ≠ s.refused ∨
        (s.needsUpdate = false ∧ t.needsUpdate = true) →
      pkt.getD 0 0 &&& 0x3F#8 = 0x09#8) ∧
    t.tempo = s.tempo ∧ t.isOpen = s.isOpen ∧ t.processed = s.processed ∧ t.input = s.input ∧
    t.inputLen = s.inputLen ∧ t.truncated = s.truncated ∧ t.cfg = s.cfg

/-! ### The sampler and the timeline -/

/-- R210, R211, R213 with the start time of decision D5: a frame push appends one frame, whose pixel (x, y) is
`PAL[FB[6 + HOFF + x, 12 + VOFF + y]]` and whose start is `(POSITION * 1000) div 300` ms, and one skip bit, the
complement of NEEDS_UPDATE, and clears NEEDS_UPDATE; nothing else changes. -/
def Obligations.FramePushSnapshotsViewport : Prop :=
  ∀ s : State, s.hoff.toNat ≤ 5 → s.voff.toNat ≤ 11 →
    ∃ f : Frame, framePush s =
        .next { s with frames := s.frames ++ [f], skip := s.skip ++ [!s.needsUpdate], needsUpdate := false } ∧
      f.startMs = BitVec.ofNat 32 (s.position * 1000 / 300) ∧
      ∀ x y, x < 288 → y < 192 →
        Grid.get f.image x y = some (palEntry s.pal (pixelAt s.fb (6 + s.hoff.toNat + x) (12 + s.voff.toNat + y)))

/-- R210, R212: window pixel (x, y) is `FB[6 + HOFF + x, 12 + VOFF + y]`; with HOFF ≤ 5 and VOFF ≤ 11 its column lies in
6 + HOFF .. 293 + HOFF, within 6 .. 298, and its row in 12 + VOFF .. 203 + VOFF, within 12 .. 214, so every sample lies
inside the framebuffer; it is a border pixel exactly in the last HOFF columns and the last VOFF rows of the window, so
with offsets 0 the window is the safe area. -/
def Obligations.SamplesLieInside : Prop :=
  ∀ (s : State) (x y : Nat), s.hoff.toNat ≤ 5 → s.voff.toNat ≤ 11 → x < 288 → y < 192 →
    Grid.get (sampleIndexed s) x y = some (pixelAt s.fb (6 + s.hoff.toNat + x) (12 + s.voff.toNat + y)) ∧
    6 + s.hoff.toNat + x ≤ 293 + s.hoff.toNat ∧ 293 + s.hoff.toNat ≤ 298 ∧
    12 + s.voff.toNat + y ≤ 203 + s.voff.toNat ∧ 203 + s.voff.toNat ≤ 214 ∧ sampleInside s = true ∧
    (inBorder (6 + s.hoff.toNat + x) (12 + s.voff.toNat + y) = true ↔
      288 - s.hoff.toNat ≤ x ∨ 192 - s.voff.toNat ≤ y)

/-- Decision D7 (R29, R214): between pushes NEEDS_UPDATE is the OR of what it was and whether the packet marked an
update; at a push the skip bit is the complement of that and the flag is cleared. -/
def Obligations.UpdateFlagCollects : Prop :=
  ∀ (pkt : List Byte) (s t : State), packetStep pkt s = .next t → t.refused = false →
    ((s.position + 1) % 12 ≠ 0 →
      t.needsUpdate = (s.needsUpdate || marksUpdate pkt s) ∧ t.skip = s.skip ∧ t.frames = s.frames) ∧
    ((s.position + 1) % 12 = 0 →
      t.needsUpdate = false ∧ t.skip = s.skip ++ [!(s.needsUpdate || marksUpdate pkt s)] ∧
      t.frames.length = s.frames.length + 1)

/-- Decision D7 (R214): over the twelve steps of a group, the skip bit pushed at its end is true exactly when none of
its twelve packets marked an update. -/
def Obligations.SkipBitSpeaksOfTwelvePackets : Prop :=
  ∀ st : Nat → State, (st 0).Inv → (st 0).running = true → (st 0).position % 12 = 0 →
    (st 0).position + 12 ≤ (st 0).inputLen / 24 → (∀ k, k ≤ 12 → (st k).refused = false) →
    (∀ k, k < 12 → step (st k) = .next (st (k + 1))) →
    ∃ bit, (st 12).skip = (st 0).skip ++ [bit] ∧
      (bit = true ↔ ∀ k, k < 12 → ∀ pkt, (st k).fetch = some pkt → marksUpdate pkt (st k) = false)

/-- R33, R213: a pushed frame and its skip bit are never changed: every step but an `open` keeps the timeline as an
initial part of the new one. -/
def Obligations.PushedFramesNeverChange : Prop :=
  ∀ s t : State, step s = .next t → (s.running = false → ∀ bytes rest, s.calls ≠ .openStream bytes :: rest) →
    s.frames <+: t.frames ∧ s.skip <+: t.skip

/-- R23 by decision D3: at or below MAX_PACKETS no millisecond value is truncated. -/
def Obligations.MillisecondsFit : Prop :=
  ∀ p : Nat, p ≤ 1288490188 → (streamMs p).toNat = p * 1000 / 300

/-! ### Host operations -/

/-- R230 with decisions D19, D26, D28 for the reset values: `open` of a non-empty input of at most MAX_PACKETS packets
resets every register, whatever the decoder held, stores the bytes and answers true. -/
def Obligations.OpenResetsAndAccepts : Prop :=
  ∀ (s : State) (bytes : List Byte) (rest : List HostCall),
    s.refused = false → s.running = false → s.calls = .openStream bytes :: rest →
    bytes ≠ [] → bytes.length / 24 ≤ s.cfg.maxPackets →
    ∃ t, step s = .next t ∧ t.isOpen = true ∧ t.inputLen = bytes.length ∧ (∀ a, t.input.read a = bytes[a]?) ∧
      ({ t with isOpen := false, inputLen := 0, input := [] } : State).AtReset ∧ t.running = false ∧
      t.refused = false ∧ t.cfg = s.cfg ∧ t.calls = rest ∧ t.replies = s.replies ++ [.bool true]

/-- R230 with decisions D19, D26, D28: `open([])` resets every register, leaves the decoder closed and answers
EmptyInput. -/
def Obligations.OpenOfNothingFails : Prop :=
  ∀ (s : State) (rest : List HostCall),
    s.refused = false → s.running = false → s.calls = .openStream [] :: rest →
    ∃ t, step s = .next t ∧ t.AtReset ∧ t.running = false ∧ t.refused = false ∧ t.cfg = s.cfg ∧ t.calls = rest ∧
      t.replies = s.replies ++ [.error .emptyInput]

/-- R231 with decision D20: `process` on a closed decoder answers NotOpen, on a processed one AlreadyProcessed, and
changes no state of the block. -/
def Obligations.ProcessNotCallable : Prop :=
  ∀ (s : State) (rest : List HostCall), s.refused = false → s.running = false → s.calls = .process :: rest →
    (s.isOpen = false →
      step s = .next { s with calls := rest, replies := s.replies ++ [.error .notOpen] }) ∧
    (s.isOpen = true → s.processed = true →
      step s = .next { s with calls := rest, replies := s.replies ++ [.error .alreadyProcessed] })

/-- R64: every operation but `open`, `process` and `set_tempo` writes no state of the block: it only takes its call
and returns a reply. -/
def Obligations.QueriesWriteNothing : Prop :=
  ∀ (s : State) (c : HostCall) (rest : List HostCall),
    s.refused = false → s.running = false → s.calls = c :: rest →
    (∀ bytes, c ≠ .openStream bytes) → c ≠ .process → (∀ p, c ≠ .setTempo p) →
    ∃ r, step s = .next { s with calls := rest, replies := s.replies ++ [r] }

/-- R233 with decision D21: before `process` has completed, each of the four guarded queries answers
QueryBeforeProcess. -/
def Obligations.QueriesBeforeProcessFail : Prop :=
  ∀ (s : State) (c : HostCall) (rest : List HostCall),
    s.refused = false → s.running = false → s.processed = false → s.calls = c :: rest →
    (∃ ms, c = .frameAt ms ∨ c = .canSkip ms) ∨ c = .lastUpdateMs ∨ c = .duration →
    step s = .next { s with calls := rest, replies := s.replies ++ [.error .queryBeforeProcess] }

/-- R241 with decision D23: the query index is the least integer i with `ms * TEMPO ≤ 4000 * i`, TEMPO signed. -/
def Obligations.QueryIndexIsExactCeiling : Prop :=
  ∀ (s : State) (ms : Nat) (i : Int), queryIndex s ms ≤ i ↔ (ms : Int) * s.tempo.toInt ≤ 4000 * i

/-- R234 with decisions D22 and D23: `frame_at` after `process` answers EmptyTimeline with no frame; else the last
frame for an index at or beyond the end, the first for a negative index, and frame i otherwise. -/
def Obligations.FrameAtClamps : Prop :=
  ∀ (s : State) (ms : Nat) (rest : List HostCall),
    s.refused = false → s.running = false → s.processed = true → s.calls = .frameAt ms :: rest →
    (s.frames = [] →
      step s = .next { s with calls := rest, replies := s.replies ++ [.error .emptyTimeline] }) ∧
    ∀ f, (s.frames ≠ [] ∧
        (queryIndex s ms < 0 ∧ s.frames[0]? = some f ∨
         (s.frames.length : Int) ≤ queryIndex s ms ∧ s.frames.getLast? = some f ∨
         ∃ k : Nat, queryIndex s ms = k ∧ s.frames[k]? = some f)) →
      step s = .next { s with calls := rest, replies := s.replies ++ [.frame f] }

/-- R235: `can_skip` answers QueryBeforeProcess before `process` has completed; after it, true exactly when the frames
i - 1, i and i + 1 all exist and all have skip bit 1, i being the query index, and false out of range, on an empty
timeline too; it writes nothing. -/
def Obligations.CanSkipIsThreeFrameWindow : Prop :=
  ∀ (s : State) (ms : Nat) (rest : List HostCall),
    s.refused = false → s.running = false → s.calls = .canSkip ms :: rest →
    (s.processed = false →
      step s = .next { s with calls := rest, replies := s.replies ++ [.error .queryBeforeProcess] }) ∧
    (s.processed = true →
      ∃ b, step s = .next { s with calls := rest, replies := s.replies ++ [.bool b] } ∧
        (b = true ↔ ∃ k : Nat, queryIndex s ms = (k : Int) + 1 ∧ s.skip[k]? = some true ∧
          s.skip[k + 1]? = some true ∧ s.skip[k + 2]? = some true))

/-- R237 with decision D25, and R236 with decisions D24 and D26: after `process`, `duration()` answers by
DURATION_MODE and `last_update_ms()` the time of the last update; neither depends on the tempo. -/
def Obligations.DurationAndLastUpdateAnswers : Prop :=
  ∀ (s : State) (rest : List HostCall), s.refused = false → s.running = false → s.processed = true →
    (s.calls = .lastUpdateMs :: rest →
      step s = .next { s with calls := rest, replies := s.replies ++ [.millis s.lastUpdateMs] }) ∧
    (s.calls = .duration :: rest →
      ∃ d : Millis, step s = .next { s with calls := rest, replies := s.replies ++ [.millis d] } ∧
        d.toNat =
          (match s.cfg.durationMode with
           | .rate => s.inputLen / 24 * 1000 / 300
           | .doc => s.inputLen / 24 * 40
           | .reference => s.inputLen * 40) % 2 ^ 32)

/-- R239: `tempo()` answers TEMPO in every phase, with no error and nothing written. After reset that is 100: on a
decoder that has just been built, in every state that ResetState leaves, and after every `open` that is not refused
(R280, R281, with decision D19 for the two). -/
def Obligations.TempoQueryAnswers : Prop :=
  (∀ (s : State) (rest : List HostCall), s.refused = false → s.running = false → s.calls = .tempo :: rest →
    step s = .next { s with calls := rest, replies := s.replies ++ [.percent s.tempo] }) ∧
  State.reset.tempo.toInt = 100 ∧
  (∀ s : State, s.resetState.tempo.toInt = 100) ∧
  ∀ (s : State) (bytes : List Byte) (rest : List HostCall),
    s.refused = false → s.running = false → s.calls = .openStream bytes :: .tempo :: rest →
    bytes.length / 24 ≤ s.cfg.maxPackets →
    ∃ (r : HostReply) (t u : State), step s = .next t ∧ t.replies = s.replies ++ [r] ∧
      step t = .next u ∧ u.replies = s.replies ++ [r, .percent 100]

/-- R238 with decisions D19 and D24, and R240 with decision D19: `set_tempo` stores every i32 and nothing else, and
`is_open()` answers IS_OPEN, in every phase. -/
def Obligations.SetTempoAndIsOpenAnswer : Prop :=
  ∀ (s : State) (rest : List HostCall), s.refused = false → s.running = false →
    (∀ p, s.calls = .setTempo p :: rest →
      step s = .next { s with tempo := p, calls := rest, replies := s.replies ++ [.done] }) ∧
    (s.calls = .isOpen :: rest →
      step s = .next { s with calls := rest, replies := s.replies ++ [.bool s.isOpen] })

/-- R35: the tempo does not affect decoding: a step of a running `process` from a state with another tempo is the
same step, with that tempo. -/
def Obligations.TempoDoesNotAffectDecoding : Prop :=
  ∀ (s : State) (p : BitVec 32), s.running = true →
    step (s.setTempo p) = mapNext (fun t => t.setTempo p) (step s)

/-- R272 by decision D39: with no call pending the block does nothing. -/
def Obligations.IdleBlockDoesNothing : Prop :=
  ∀ s : State, s.refused = false → s.running = false → s.calls = [] → step s = .next s

/-- R262 by decisions D1, D3, D11, D12, D15: an `open` of more than MAX_PACKETS packets is refused (R230: it leaves the
reset state with REFUSED = 1, and returns nothing); a packet whose instruction a `refuse` setting turns away sets REFUSED
and does nothing else; nothing else sets the mark; and from a state that has it every step is refused. How a refusal ends
its step, and that the steps after it are refused, is the model's choice (notes/assumptions/3.md). -/
def Obligations.RefusalsAreMarked : Prop :=
  (∀ (s : State) (bytes : List Byte) (rest : List HostCall),
    s.refused = false → s.running = false → s.calls = .openStream bytes :: rest →
    s.cfg.maxPackets < bytes.length / 24 →
    ∃ t, step s = .next t ∧ t.refused = true ∧ t.AtReset ∧ t.running = false ∧ t.cfg = s.cfg ∧ t.calls = rest ∧
      t.replies = s.replies) ∧
  (∀ (s : State) (pkt : List Byte) (i : Instr) (r : Refusal),
    s.refused = false → s.running = true → s.position < s.inputLen / 24 → s.fetch = some pkt →
    decode pkt = .instr i → exec i s = .refused r → step s = .next { s with refused := true }) ∧
  (∀ s : State, s.refused = true → step s = .refused .afterRefusal) ∧
  ∀ s t : State, step s = .next t → t.refused = true →
    (s.running = true ∧ ¬s.cfg.neverRefuses ∧
      ∃ pkt i r, s.fetch = some pkt ∧ decode pkt = .instr i ∧ exec i s = .refused r ∧ i.wellFormed = false) ∨
    ∃ bytes rest, s.running = false ∧ s.calls = .openStream bytes :: rest ∧ s.cfg.maxPackets < bytes.length / 24

/-! ### Reset, invariant, completion -/

/-- R281 with decisions D17, D18, D19, D26 and D28: a decoder that has just been built holds the reset values, with
REFUSED = 0. That nothing is running or pending speaks of two fields of the model's own (notes/assumptions/1.md), and
MAX_PACKETS = 1288490188 is the default of decision D3 (notes/assumptions/5.md, notes/assumptions/25.md). -/
def Obligations.ResetValues : Prop :=
  State.reset.AtReset ∧ State.reset.refused = false ∧ State.reset.running = false ∧ State.reset.calls = [] ∧
    State.reset.cfg.maxPackets = 1288490188 ∧ (∀ x y, x < 300 → y < 216 → pixelAt State.reset.fb x y = 0)

/-- The invariant holds right after reset. -/
def Obligations.ResetMeetsInvariant : Prop :=
  State.reset.Inv

/-- Every step keeps the invariant, from every state that meets it: the offsets stay in range (R26, R27), the palette
holds expanded colours (R24), the timeline is parallel, counted and timed (R34, R215, R216), the input is canonical
and readable while held (R51), and the phases stay legal (R267). -/
def Obligations.StepKeepsInvariant : Prop :=
  ∀ s t : State, s.Inv → step s = .next t → t.Inv

/-- R263: no state that meets the invariant faults. -/
def Obligations.InvariantStatesNeverFault : Prop :=
  ∀ (s : State) (f : Fault), s.Inv → step s ≠ .fault f

/-- R232 and R216, with decisions D4, D5, D18 and D40: under parameters that never refuse, `process` on an open decoder
completes: it answers true, POSITION is N = INPUT_LEN div 24, there are N div 12 frames with start times 40(i + 1) ms,
TRUNCATED says whether a tail is left, the input is released and its length kept. That this takes exactly N + 2 steps,
one to begin, one for each packet and one to end, is the model's choice of what a step is (notes/assumptions/1.md). -/
def Obligations.ProcessRunsToCompletion : Prop :=
  ∀ (s : State) (rest : List HostCall), s.Inv → s.refused = false → s.cfg.neverRefuses →
    s.isOpen = true → s.processed = false → s.running = false → s.calls = .process :: rest →
    ∃ t : State, Host.Core.run Sys2Proof.core (s.inputLen / 24 + 2) s = .next t ∧
      t.processed = true ∧ t.running = false ∧ t.refused = false ∧ t.isOpen = true ∧
      t.position = s.inputLen / 24 ∧ t.frames.length = s.inputLen / 24 / 12 ∧
      t.skip.length = s.inputLen / 24 / 12 ∧ t.FrameTimes ∧
      t.truncated = decide (s.inputLen % 24 ≠ 0) ∧ t.input = [] ∧ t.inputLen = s.inputLen ∧
      t.tempo = s.tempo ∧ t.calls = rest ∧ t.replies = s.replies ++ [.bool true]
end

