-- ==== Sys2Proof/Laws/Decode.lean ====
section
/-! SUPPORT. What the decoder's answers say of a packet's command and instruction fields (R73, R74, R78). -/

namespace Sys2Proof

/-- Masking a byte with 0x3F compares its bits 5:0 (R9). -/
theorem and_mask_eq (b c : Byte) (hc : c.toNat < 64) :
    b &&& 0x3F#8 = c ↔ b.extractLsb' 0 6 = BitVec.ofNat 6 c.toNat := by
  have e : (b &&& 0x3F#8).toNat = b.toNat % 64 := by
    rw [BitVec.toNat_and]; exact Nat.and_two_pow_sub_one_eq_mod b.toNat 6
  rw [← BitVec.toNat_inj, ← BitVec.toNat_inj, e]
  simp [BitVec.extractLsb'_toNat, Nat.mod_eq_of_lt hc]

theorem cmdField_eq_iff (pkt : List Byte) : pkt.getD 0 0 &&& 0x3F#8 = 0x09#8 ↔ cmdField pkt = 9 :=
  and_mask_eq _ 9#8 (by decide)

theorem insField_eq_one_iff (pkt : List Byte) : pkt.getD 1 0 &&& 0x3F#8 = 0x01#8 ↔ insField pkt = 1 :=
  and_mask_eq _ 1#8 (by decide)

theorem decode_of_cmdField {pkt : List Byte} (hl : pkt.length = 24) (h : cmdField pkt = 9) :
    decode pkt = decodeCdg pkt := by
  simp [decode, hl, h]

theorem decode_of_other {pkt : List Byte} (hl : pkt.length = 24) (h : cmdField pkt ≠ 9) : decode pkt = .notCdg := by
  unfold decode
  rw [if_pos hl, if_neg h]

theorem decodeCdg_cases (pkt : List Byte) :
    (∃ i, decodeCdg pkt = .instr i) ∨ decodeCdg pkt = .reserved (insField pkt) := by
  unfold decodeCdg
  split <;> first | exact .inl ⟨_, rfl⟩ | exact .inr rfl

/-- A packet of 24 bytes is always one of the three classes. -/
theorem decode_ne_notAPacket {pkt : List Byte} (hl : pkt.length = 24) : decode pkt ≠ .notAPacket := by
  by_cases h : cmdField pkt = 9
  · rw [decode_of_cmdField hl h]
    rcases decodeCdg_cases pkt with ⟨i, e⟩ | e <;> rw [e] <;> simp
  · rw [decode_of_other hl h]; simp

theorem cmdField_of_instr {pkt : List Byte} {i : Instr} (h : decode pkt = .instr i) : cmdField pkt = 9 := by
  unfold decode at h
  split at h
  · split at h
    · assumption
    · cases h
  · cases h

theorem cmdField_of_reserved {pkt : List Byte} {c : BitVec 6} (h : decode pkt = .reserved c) : cmdField pkt = 9 := by
  unfold decode at h
  split at h
  · split at h
    · assumption
    · cases h
  · cases h

theorem cmdField_of_notCdg {pkt : List Byte} (h : decode pkt = .notCdg) : cmdField pkt ≠ 9 := by
  unfold decode at h
  split at h
  · split at h
    · rcases decodeCdg_cases pkt with ⟨i, e⟩ | e <;> rw [e] at h <;> cases h
    · assumption
  · cases h

end Sys2Proof
end

