-- ==== Sys2Proof/Laws/Grid.lean ====
section
/-! SUPPORT. Reading an array built by a function gives the function's value, and arrays with equal readings are
equal: the laws of the framebuffer (R52), the palette (R53) and a frame's image (R33). -/

namespace Sys2Proof

@[simp] theorem tabulate_getElem {α : Type} (n : Nat) (f : Nat → α) (i : Nat) (h : i < n) :
    (tabulate n f)[i] = f i := by
  simp [tabulate]

@[simp] theorem tabulate_getElem? {α : Type} (n : Nat) (f : Nat → α) (i : Nat) (h : i < n) :
    (tabulate n f)[i]? = some (f i) := by
  simp [h]

end Sys2Proof

namespace Sys2Proof.Machine

@[simp] theorem Grid.get_ofFn {α : Type} {w h : Nat} (f : Nat → Nat → α) {x y : Nat} (hx : x < w) (hy : y < h) :
    Grid.get (Grid.ofFn w h f) x y = some (f x y) := by
  simp [Grid.get, Grid.ofFn, hx, hy]

theorem Grid.get_isSome {α : Type} {w h : Nat} (g : Grid w h α) {x y : Nat} (hx : x < w) (hy : y < h) :
    Grid.get g x y = some (g[y][x]) := by
  simp [Grid.get, hx, hy]

theorem Grid.ext_get {α : Type} {w h : Nat} {g k : Grid w h α}
    (e : ∀ x y, x < w → y < h → Grid.get g x y = Grid.get k x y) : g = k := by
  refine Vector.ext fun y hy => Vector.ext fun x hx => ?_
  have := e x y hx hy
  rwa [Grid.get_isSome g hx hy, Grid.get_isSome k hx hy, Option.some.injEq] at this

@[simp] theorem pixelAt_framebufferOf (f : Nat → Nat → Pixel) {x y : Nat} (hx : x < 300) (hy : y < 216) :
    pixelAt (framebufferOf f) x y = f x y := by
  simp [pixelAt, framebufferOf, hx, hy]

/-- Two framebuffers that read alike are equal. -/
theorem framebuffer_ext {a b : Framebuffer}
    (e : ∀ x y, x < 300 → y < 216 → pixelAt a x y = pixelAt b x y) : a = b := by
  refine Grid.ext_get fun x y hx hy => ?_
  have := e x y hx hy
  simpa [pixelAt, Grid.get_isSome _ hx hy] using this

theorem framebufferOf_pixelAt (fb : Framebuffer) : framebufferOf (pixelAt fb) = fb :=
  framebuffer_ext fun _ _ hx hy => pixelAt_framebufferOf _ hx hy

theorem framebufferOf_congr {f g : Nat → Nat → Pixel} (e : ∀ x y, x < 300 → y < 216 → f x y = g x y) :
    framebufferOf f = framebufferOf g :=
  framebuffer_ext fun x y hx hy => by simp [hx, hy, e x y hx hy]

@[simp] theorem palEntry_paletteOf (f : Nat → Color) (i : Pixel) : palEntry (paletteOf f) i = f i.toNat := by
  simp [palEntry, paletteOf]

theorem palEntry_eq_getElem? (pal : Palette) (i : Pixel) : pal[i.toNat]? = some (palEntry pal i) := by
  have h : i.toNat < 16 := i.isLt
  simp [palEntry, h]

/-- Two palettes that read alike are equal. -/
theorem palette_ext {a b : Palette} (e : ∀ i, palEntry a i = palEntry b i) : a = b := by
  refine Vector.ext fun i hi => ?_
  have := e (BitVec.ofNat 4 i)
  have hm : i % 16 = i := Nat.mod_eq_of_lt hi
  simpa [palEntry, hm] using this

end Sys2Proof.Machine
end

