-- ==== Sys2Proof/Laws/State.lean ====
section
/-! SUPPORT. What each named update of `State` does to each field: one lemma per field per update, true by
definition, so that no later proof unfolds a record update. -/

namespace Sys2Proof.Machine

section
variable (s : State)

@[simp] theorem State.setFb_cfg (fb : Framebuffer) : (s.setFb fb).cfg = s.cfg := rfl
@[simp] theorem State.setFb_fb (fb : Framebuffer) : (s.setFb fb).fb = fb := rfl
@[simp] theorem State.setFb_pal (fb : Framebuffer) : (s.setFb fb).pal = s.pal := rfl
@[simp] theorem State.setFb_position (fb : Framebuffer) : (s.setFb fb).position = s.position := rfl
@[simp] theorem State.setFb_hoff (fb : Framebuffer) : (s.setFb fb).hoff = s.hoff := rfl
@[simp] theorem State.setFb_voff (fb : Framebuffer) : (s.setFb fb).voff = s.voff := rfl
@[simp] theorem State.setFb_lastMp (fb : Framebuffer) : (s.setFb fb).lastMp = s.lastMp := rfl
@[simp] theorem State.setFb_needsUpdate (fb : Framebuffer) : (s.setFb fb).needsUpdate = s.needsUpdate := rfl
@[simp] theorem State.setFb_lastUpdateMs (fb : Framebuffer) : (s.setFb fb).lastUpdateMs = s.lastUpdateMs := rfl
@[simp] theorem State.setFb_frames (fb : Framebuffer) : (s.setFb fb).frames = s.frames := rfl
@[simp] theorem State.setFb_skip (fb : Framebuffer) : (s.setFb fb).skip = s.skip := rfl
@[simp] theorem State.setFb_tempo (fb : Framebuffer) : (s.setFb fb).tempo = s.tempo := rfl
@[simp] theorem State.setFb_isOpen (fb : Framebuffer) : (s.setFb fb).isOpen = s.isOpen := rfl
@[simp] theorem State.setFb_processed (fb : Framebuffer) : (s.setFb fb).processed = s.processed := rfl
@[simp] theorem State.setFb_input (fb : Framebuffer) : (s.setFb fb).input = s.input := rfl
@[simp] theorem State.setFb_inputLen (fb : Framebuffer) : (s.setFb fb).inputLen = s.inputLen := rfl
@[simp] theorem State.setFb_truncated (fb : Framebuffer) : (s.setFb fb).truncated = s.truncated := rfl
@[simp] theorem State.setFb_transparentSeen (fb : Framebuffer) : (s.setFb fb).transparentSeen = s.transparentSeen := rfl
@[simp] theorem State.setFb_refused (fb : Framebuffer) : (s.setFb fb).refused = s.refused := rfl
@[simp] theorem State.setFb_running (fb : Framebuffer) : (s.setFb fb).running = s.running := rfl
@[simp] theorem State.setFb_calls (fb : Framebuffer) : (s.setFb fb).calls = s.calls := rfl
@[simp] theorem State.setFb_replies (fb : Framebuffer) : (s.setFb fb).replies = s.replies := rfl

@[simp] theorem State.setPal_cfg (pal : Palette) : (s.setPal pal).cfg = s.cfg := rfl
@[simp] theorem State.setPal_fb (pal : Palette) : (s.setPal pal).fb = s.fb := rfl
@[simp] theorem State.setPal_pal (pal : Palette) : (s.setPal pal).pal = pal := rfl
@[simp] theorem State.setPal_position (pal : Palette) : (s.setPal pal).position = s.position := rfl
@[simp] theorem State.setPal_hoff (pal : Palette) : (s.setPal pal).hoff = s.hoff := rfl
@[simp] theorem State.setPal_voff (pal : Palette) : (s.setPal pal).voff = s.voff := rfl
@[simp] theorem State.setPal_lastMp (pal : Palette) : (s.setPal pal).lastMp = s.lastMp := rfl
@[simp] theorem State.setPal_needsUpdate (pal : Palette) : (s.setPal pal).needsUpdate = s.needsUpdate := rfl
@[simp] theorem State.setPal_lastUpdateMs (pal : Palette) : (s.setPal pal).lastUpdateMs = s.lastUpdateMs := rfl
@[simp] theorem State.setPal_frames (pal : Palette) : (s.setPal pal).frames = s.frames := rfl
@[simp] theorem State.setPal_skip (pal : Palette) : (s.setPal pal).skip = s.skip := rfl
@[simp] theorem State.setPal_tempo (pal : Palette) : (s.setPal pal).tempo = s.tempo := rfl
@[simp] theorem State.setPal_isOpen (pal : Palette) : (s.setPal pal).isOpen = s.isOpen := rfl
@[simp] theorem State.setPal_processed (pal : Palette) : (s.setPal pal).processed = s.processed := rfl
@[simp] theorem State.setPal_input (pal : Palette) : (s.setPal pal).input = s.input := rfl
@[simp] theorem State.setPal_inputLen (pal : Palette) : (s.setPal pal).inputLen = s.inputLen := rfl
@[simp] theorem State.setPal_truncated (pal : Palette) : (s.setPal pal).truncated = s.truncated := rfl
@[simp] theorem State.setPal_transparentSeen (pal : Palette) : (s.setPal pal).transparentSeen = s.transparentSeen := rfl
@[simp] theorem State.setPal_refused (pal : Palette) : (s.setPal pal).refused = s.refused := rfl
@[simp] theorem State.setPal_running (pal : Palette) : (s.setPal pal).running = s.running := rfl
@[simp] theorem State.setPal_calls (pal : Palette) : (s.setPal pal).calls = s.calls := rfl
@[simp] theorem State.setPal_replies (pal : Palette) : (s.setPal pal).replies = s.replies := rfl

@[simp] theorem State.setOffsets_cfg (h : BitVec 3) (v : BitVec 4) : (s.setOffsets h v).cfg = s.cfg := rfl
@[simp] theorem State.setOffsets_fb (h : BitVec 3) (v : BitVec 4) : (s.setOffsets h v).fb = s.fb := rfl
@[simp] theorem State.setOffsets_pal (h : BitVec 3) (v : BitVec 4) : (s.setOffsets h v).pal = s.pal := rfl
@[simp] theorem State.setOffsets_position (h : BitVec 3) (v : BitVec 4) : (s.setOffsets h v).position = s.position := rfl
@[simp] theorem State.setOffsets_hoff (h : BitVec 3) (v : BitVec 4) : (s.setOffsets h v).hoff = h := rfl
@[simp] theorem State.setOffsets_voff (h : BitVec 3) (v : BitVec 4) : (s.setOffsets h v).voff = v := rfl
@[simp] theorem State.setOffsets_lastMp (h : BitVec 3) (v : BitVec 4) : (s.setOffsets h v).lastMp = s.lastMp := rfl
@[simp] theorem State.setOffsets_needsUpdate (h : BitVec 3) (v : BitVec 4) : (s.setOffsets h v).needsUpdate = s.needsUpdate := rfl
@[simp] theorem State.setOffsets_lastUpdateMs (h : BitVec 3) (v : BitVec 4) : (s.setOffsets h v).lastUpdateMs = s.lastUpdateMs := rfl
@[simp] theorem State.setOffsets_frames (h : BitVec 3) (v : BitVec 4) : (s.setOffsets h v).frames = s.frames := rfl
@[simp] theorem State.setOffsets_skip (h : BitVec 3) (v : BitVec 4) : (s.setOffsets h v).skip = s.skip := rfl
@[simp] theorem State.setOffsets_tempo (h : BitVec 3) (v : BitVec 4) : (s.setOffsets h v).tempo = s.tempo := rfl
@[simp] theorem State.setOffsets_isOpen (h : BitVec 3) (v : BitVec 4) : (s.setOffsets h v).isOpen = s.isOpen := rfl
@[simp] theorem State.setOffsets_processed (h : BitVec 3) (v : BitVec 4) : (s.setOffsets h v).processed = s.processed := rfl
@[simp] theorem State.setOffsets_input (h : BitVec 3) (v : BitVec 4) : (s.setOffsets h v).input = s.input := rfl
@[simp] theorem State.setOffsets_inputLen (h : BitVec 3) (v : BitVec 4) : (s.setOffsets h v).inputLen = s.inputLen := rfl
@[simp] theorem State.setOffsets_truncated (h : BitVec 3) (v : BitVec 4) : (s.setOffsets h v).truncated = s.truncated := rfl
@[simp] theorem State.setOffsets_transparentSeen (h : BitVec 3) (v : BitVec 4) : (s.setOffsets h v).transparentSeen = s.transparentSeen := rfl
@[simp] theorem State.setOffsets_refused (h : BitVec 3) (v : BitVec 4) : (s.setOffsets h v).refused = s.refused := rfl
@[simp] theorem State.setOffsets_running (h : BitVec 3) (v : BitVec 4) : (s.setOffsets h v).running = s.running := rfl
@[simp] theorem State.setOffsets_calls (h : BitVec 3) (v : BitVec 4) : (s.setOffsets h v).calls = s.calls := rfl
@[simp] theorem State.setOffsets_replies (h : BitVec 3) (v : BitVec 4) : (s.setOffsets h v).replies = s.replies := rfl

@[simp] theorem State.setTransparentSeen_cfg : (s.setTransparentSeen).cfg = s.cfg := rfl
@[simp] theorem State.setTransparentSeen_fb : (s.setTransparentSeen).fb = s.fb := rfl
@[simp] theorem State.setTransparentSeen_pal : (s.setTransparentSeen).pal = s.pal := rfl
@[simp] theorem State.setTransparentSeen_position : (s.setTransparentSeen).position = s.position := rfl
@[simp] theorem State.setTransparentSeen_hoff : (s.setTransparentSeen).hoff = s.hoff := rfl
@[simp] theorem State.setTransparentSeen_voff : (s.setTransparentSeen).voff = s.voff := rfl
@[simp] theorem State.setTransparentSeen_lastMp : (s.setTransparentSeen).lastMp = s.lastMp := rfl
@[simp] theorem State.setTransparentSeen_needsUpdate : (s.setTransparentSeen).needsUpdate = s.needsUpdate := rfl
@[simp] theorem State.setTransparentSeen_lastUpdateMs : (s.setTransparentSeen).lastUpdateMs = s.lastUpdateMs := rfl
@[simp] theorem State.setTransparentSeen_frames : (s.setTransparentSeen).frames = s.frames := rfl
@[simp] theorem State.setTransparentSeen_skip : (s.setTransparentSeen).skip = s.skip := rfl
@[simp] theorem State.setTransparentSeen_tempo : (s.setTransparentSeen).tempo = s.tempo := rfl
@[simp] theorem State.setTransparentSeen_isOpen : (s.setTransparentSeen).isOpen = s.isOpen := rfl
@[simp] theorem State.setTransparentSeen_processed : (s.setTransparentSeen).processed = s.processed := rfl
@[simp] theorem State.setTransparentSeen_input : (s.setTransparentSeen).input = s.input := rfl
@[simp] theorem State.setTransparentSeen_inputLen : (s.setTransparentSeen).inputLen = s.inputLen := rfl
@[simp] theorem State.setTransparentSeen_truncated : (s.setTransparentSeen).truncated = s.truncated := rfl
@[simp] theorem State.setTransparentSeen_transparentSeen : (s.setTransparentSeen).transparentSeen = true := rfl
@[simp] theorem State.setTransparentSeen_refused : (s.setTransparentSeen).refused = s.refused := rfl
@[simp] theorem State.setTransparentSeen_running : (s.setTransparentSeen).running = s.running := rfl
@[simp] theorem State.setTransparentSeen_calls : (s.setTransparentSeen).calls = s.calls := rfl
@[simp] theorem State.setTransparentSeen_replies : (s.setTransparentSeen).replies = s.replies := rfl

@[simp] theorem State.advance_cfg : (s.advance).cfg = s.cfg := rfl
@[simp] theorem State.advance_fb : (s.advance).fb = s.fb := rfl
@[simp] theorem State.advance_pal : (s.advance).pal = s.pal := rfl
@[simp] theorem State.advance_position : (s.advance).position = s.position + 1 := rfl
@[simp] theorem State.advance_hoff : (s.advance).hoff = s.hoff := rfl
@[simp] theorem State.advance_voff : (s.advance).voff = s.voff := rfl
@[simp] theorem State.advance_lastMp : (s.advance).lastMp = s.lastMp := rfl
@[simp] theorem State.advance_needsUpdate : (s.advance).needsUpdate = s.needsUpdate := rfl
@[simp] theorem State.advance_lastUpdateMs : (s.advance).lastUpdateMs = s.lastUpdateMs := rfl
@[simp] theorem State.advance_frames : (s.advance).frames = s.frames := rfl
@[simp] theorem State.advance_skip : (s.advance).skip = s.skip := rfl
@[simp] theorem State.advance_tempo : (s.advance).tempo = s.tempo := rfl
@[simp] theorem State.advance_isOpen : (s.advance).isOpen = s.isOpen := rfl
@[simp] theorem State.advance_processed : (s.advance).processed = s.processed := rfl
@[simp] theorem State.advance_input : (s.advance).input = s.input := rfl
@[simp] theorem State.advance_inputLen : (s.advance).inputLen = s.inputLen := rfl
@[simp] theorem State.advance_truncated : (s.advance).truncated = s.truncated := rfl
@[simp] theorem State.advance_transparentSeen : (s.advance).transparentSeen = s.transparentSeen := rfl
@[simp] theorem State.advance_refused : (s.advance).refused = s.refused := rfl
@[simp] theorem State.advance_running : (s.advance).running = s.running := rfl
@[simp] theorem State.advance_calls : (s.advance).calls = s.calls := rfl
@[simp] theorem State.advance_replies : (s.advance).replies = s.replies := rfl

@[simp] theorem State.setTempo_cfg (p : BitVec 32) : (s.setTempo p).cfg = s.cfg := rfl
@[simp] theorem State.setTempo_fb (p : BitVec 32) : (s.setTempo p).fb = s.fb := rfl
@[simp] theorem State.setTempo_pal (p : BitVec 32) : (s.setTempo p).pal = s.pal := rfl
@[simp] theorem State.setTempo_position (p : BitVec 32) : (s.setTempo p).position = s.position := rfl
@[simp] theorem State.setTempo_hoff (p : BitVec 32) : (s.setTempo p).hoff = s.hoff := rfl
@[simp] theorem State.setTempo_voff (p : BitVec 32) : (s.setTempo p).voff = s.voff := rfl
@[simp] theorem State.setTempo_lastMp (p : BitVec 32) : (s.setTempo p).lastMp = s.lastMp := rfl
@[simp] theorem State.setTempo_needsUpdate (p : BitVec 32) : (s.setTempo p).needsUpdate = s.needsUpdate := rfl
@[simp] theorem State.setTempo_lastUpdateMs (p : BitVec 32) : (s.setTempo p).lastUpdateMs = s.lastUpdateMs := rfl
@[simp] theorem State.setTempo_frames (p : BitVec 32) : (s.setTempo p).frames = s.frames := rfl
@[simp] theorem State.setTempo_skip (p : BitVec 32) : (s.setTempo p).skip = s.skip := rfl
@[simp] theorem State.setTempo_tempo (p : BitVec 32) : (s.setTempo p).tempo = p := rfl
@[simp] theorem State.setTempo_isOpen (p : BitVec 32) : (s.setTempo p).isOpen = s.isOpen := rfl
@[simp] theorem State.setTempo_processed (p : BitVec 32) : (s.setTempo p).processed = s.processed := rfl
@[simp] theorem State.setTempo_input (p : BitVec 32) : (s.setTempo p).input = s.input := rfl
@[simp] theorem State.setTempo_inputLen (p : BitVec 32) : (s.setTempo p).inputLen = s.inputLen := rfl
@[simp] theorem State.setTempo_truncated (p : BitVec 32) : (s.setTempo p).truncated = s.truncated := rfl
@[simp] theorem State.setTempo_transparentSeen (p : BitVec 32) : (s.setTempo p).transparentSeen = s.transparentSeen := rfl
@[simp] theorem State.setTempo_refused (p : BitVec 32) : (s.setTempo p).refused = s.refused := rfl
@[simp] theorem State.setTempo_running (p : BitVec 32) : (s.setTempo p).running = s.running := rfl
@[simp] theorem State.setTempo_calls (p : BitVec 32) : (s.setTempo p).calls = s.calls := rfl
@[simp] theorem State.setTempo_replies (p : BitVec 32) : (s.setTempo p).replies = s.replies := rfl

@[simp] theorem State.markRefused_cfg : (s.markRefused).cfg = s.cfg := rfl
@[simp] theorem State.markRefused_fb : (s.markRefused).fb = s.fb := rfl
@[simp] theorem State.markRefused_pal : (s.markRefused).pal = s.pal := rfl
@[simp] theorem State.markRefused_position : (s.markRefused).position = s.position := rfl
@[simp] theorem State.markRefused_hoff : (s.markRefused).hoff = s.hoff := rfl
@[simp] theorem State.markRefused_voff : (s.markRefused).voff = s.voff := rfl
@[simp] theorem State.markRefused_lastMp : (s.markRefused).lastMp = s.lastMp := rfl
@[simp] theorem State.markRefused_needsUpdate : (s.markRefused).needsUpdate = s.needsUpdate := rfl
@[simp] theorem State.markRefused_lastUpdateMs : (s.markRefused).lastUpdateMs = s.lastUpdateMs := rfl
@[simp] theorem State.markRefused_frames : (s.markRefused).frames = s.frames := rfl
@[simp] theorem State.markRefused_skip : (s.markRefused).skip = s.skip := rfl
@[simp] theorem State.markRefused_tempo : (s.markRefused).tempo = s.tempo := rfl
@[simp] theorem State.markRefused_isOpen : (s.markRefused).isOpen = s.isOpen := rfl
@[simp] theorem State.markRefused_processed : (s.markRefused).processed = s.processed := rfl
@[simp] theorem State.markRefused_input : (s.markRefused).input = s.input := rfl
@[simp] theorem State.markRefused_inputLen : (s.markRefused).inputLen = s.inputLen := rfl
@[simp] theorem State.markRefused_truncated : (s.markRefused).truncated = s.truncated := rfl
@[simp] theorem State.markRefused_transparentSeen : (s.markRefused).transparentSeen = s.transparentSeen := rfl
@[simp] theorem State.markRefused_refused : (s.markRefused).refused = true := rfl
@[simp] theorem State.markRefused_running : (s.markRefused).running = s.running := rfl
@[simp] theorem State.markRefused_calls : (s.markRefused).calls = s.calls := rfl
@[simp] theorem State.markRefused_replies : (s.markRefused).replies = s.replies := rfl

@[simp] theorem State.setCalls_cfg (cs : List HostCall) : (s.setCalls cs).cfg = s.cfg := rfl
@[simp] theorem State.setCalls_fb (cs : List HostCall) : (s.setCalls cs).fb = s.fb := rfl
@[simp] theorem State.setCalls_pal (cs : List HostCall) : (s.setCalls cs).pal = s.pal := rfl
@[simp] theorem State.setCalls_position (cs : List HostCall) : (s.setCalls cs).position = s.position := rfl
@[simp] theorem State.setCalls_hoff (cs : List HostCall) : (s.setCalls cs).hoff = s.hoff := rfl
@[simp] theorem State.setCalls_voff (cs : List HostCall) : (s.setCalls cs).voff = s.voff := rfl
@[simp] theorem State.setCalls_lastMp (cs : List HostCall) : (s.setCalls cs).lastMp = s.lastMp := rfl
@[simp] theorem State.setCalls_needsUpdate (cs : List HostCall) : (s.setCalls cs).needsUpdate = s.needsUpdate := rfl
@[simp] theorem State.setCalls_lastUpdateMs (cs : List HostCall) : (s.setCalls cs).lastUpdateMs = s.lastUpdateMs := rfl
@[simp] theorem State.setCalls_frames (cs : List HostCall) : (s.setCalls cs).frames = s.frames := rfl
@[simp] theorem State.setCalls_skip (cs : List HostCall) : (s.setCalls cs).skip = s.skip := rfl
@[simp] theorem State.setCalls_tempo (cs : List HostCall) : (s.setCalls cs).tempo = s.tempo := rfl
@[simp] theorem State.setCalls_isOpen (cs : List HostCall) : (s.setCalls cs).isOpen = s.isOpen := rfl
@[simp] theorem State.setCalls_processed (cs : List HostCall) : (s.setCalls cs).processed = s.processed := rfl
@[simp] theorem State.setCalls_input (cs : List HostCall) : (s.setCalls cs).input = s.input := rfl
@[simp] theorem State.setCalls_inputLen (cs : List HostCall) : (s.setCalls cs).inputLen = s.inputLen := rfl
@[simp] theorem State.setCalls_truncated (cs : List HostCall) : (s.setCalls cs).truncated = s.truncated := rfl
@[simp] theorem State.setCalls_transparentSeen (cs : List HostCall) : (s.setCalls cs).transparentSeen = s.transparentSeen := rfl
@[simp] theorem State.setCalls_refused (cs : List HostCall) : (s.setCalls cs).refused = s.refused := rfl
@[simp] theorem State.setCalls_running (cs : List HostCall) : (s.setCalls cs).running = s.running := rfl
@[simp] theorem State.setCalls_calls (cs : List HostCall) : (s.setCalls cs).calls = cs := rfl
@[simp] theorem State.setCalls_replies (cs : List HostCall) : (s.setCalls cs).replies = s.replies := rfl

@[simp] theorem State.reply_cfg (r : HostReply) : (s.reply r).cfg = s.cfg := rfl
@[simp] theorem State.reply_fb (r : HostReply) : (s.reply r).fb = s.fb := rfl
@[simp] theorem State.reply_pal (r : HostReply) : (s.reply r).pal = s.pal := rfl
@[simp] theorem State.reply_position (r : HostReply) : (s.reply r).position = s.position := rfl
@[simp] theorem State.reply_hoff (r : HostReply) : (s.reply r).hoff = s.hoff := rfl
@[simp] theorem State.reply_voff (r : HostReply) : (s.reply r).voff = s.voff := rfl
@[simp] theorem State.reply_lastMp (r : HostReply) : (s.reply r).lastMp = s.lastMp := rfl
@[simp] theorem State.reply_needsUpdate (r : HostReply) : (s.reply r).needsUpdate = s.needsUpdate := rfl
@[simp] theorem State.reply_lastUpdateMs (r : HostReply) : (s.reply r).lastUpdateMs = s.lastUpdateMs := rfl
@[simp] theorem State.reply_frames (r : HostReply) : (s.reply r).frames = s.frames := rfl
@[simp] theorem State.reply_skip (r : HostReply) : (s.reply r).skip = s.skip := rfl
@[simp] theorem State.reply_tempo (r : HostReply) : (s.reply r).tempo = s.tempo := rfl
@[simp] theorem State.reply_isOpen (r : HostReply) : (s.reply r).isOpen = s.isOpen := rfl
@[simp] theorem State.reply_processed (r : HostReply) : (s.reply r).processed = s.processed := rfl
@[simp] theorem State.reply_input (r : HostReply) : (s.reply r).input = s.input := rfl
@[simp] theorem State.reply_inputLen (r : HostReply) : (s.reply r).inputLen = s.inputLen := rfl
@[simp] theorem State.reply_truncated (r : HostReply) : (s.reply r).truncated = s.truncated := rfl
@[simp] theorem State.reply_transparentSeen (r : HostReply) : (s.reply r).transparentSeen = s.transparentSeen := rfl
@[simp] theorem State.reply_refused (r : HostReply) : (s.reply r).refused = s.refused := rfl
@[simp] theorem State.reply_running (r : HostReply) : (s.reply r).running = s.running := rfl
@[simp] theorem State.reply_calls (r : HostReply) : (s.reply r).calls = s.calls := rfl
@[simp] theorem State.reply_replies (r : HostReply) : (s.reply r).replies = s.replies ++ [r] := rfl

@[simp] theorem State.markUpdate_cfg : (s.markUpdate).cfg = s.cfg := rfl
@[simp] theorem State.markUpdate_fb : (s.markUpdate).fb = s.fb := rfl
@[simp] theorem State.markUpdate_pal : (s.markUpdate).pal = s.pal := rfl
@[simp] theorem State.markUpdate_position : (s.markUpdate).position = s.position := rfl
@[simp] theorem State.markUpdate_hoff : (s.markUpdate).hoff = s.hoff := rfl
@[simp] theorem State.markUpdate_voff : (s.markUpdate).voff = s.voff := rfl
@[simp] theorem State.markUpdate_lastMp : (s.markUpdate).lastMp = s.lastMp := rfl
@[simp] theorem State.markUpdate_needsUpdate : (s.markUpdate).needsUpdate = true := rfl
@[simp] theorem State.markUpdate_lastUpdateMs : (s.markUpdate).lastUpdateMs = streamMs s.position := rfl
@[simp] theorem State.markUpdate_frames : (s.markUpdate).frames = s.frames := rfl
@[simp] theorem State.markUpdate_skip : (s.markUpdate).skip = s.skip := rfl
@[simp] theorem State.markUpdate_tempo : (s.markUpdate).tempo = s.tempo := rfl
@[simp] theorem State.markUpdate_isOpen : (s.markUpdate).isOpen = s.isOpen := rfl
@[simp] theorem State.markUpdate_processed : (s.markUpdate).processed = s.processed := rfl
@[simp] theorem State.markUpdate_input : (s.markUpdate).input = s.input := rfl
@[simp] theorem State.markUpdate_inputLen : (s.markUpdate).inputLen = s.inputLen := rfl
@[simp] theorem State.markUpdate_truncated : (s.markUpdate).truncated = s.truncated := rfl
@[simp] theorem State.markUpdate_transparentSeen : (s.markUpdate).transparentSeen = s.transparentSeen := rfl
@[simp] theorem State.markUpdate_refused : (s.markUpdate).refused = s.refused := rfl
@[simp] theorem State.markUpdate_running : (s.markUpdate).running = s.running := rfl
@[simp] theorem State.markUpdate_calls : (s.markUpdate).calls = s.calls := rfl
@[simp] theorem State.markUpdate_replies : (s.markUpdate).replies = s.replies := rfl

@[simp] theorem State.setLastMp_cfg (b : Bool) : (s.setLastMp b).cfg = s.cfg := rfl
@[simp] theorem State.setLastMp_fb (b : Bool) : (s.setLastMp b).fb = s.fb := rfl
@[simp] theorem State.setLastMp_pal (b : Bool) : (s.setLastMp b).pal = s.pal := rfl
@[simp] theorem State.setLastMp_position (b : Bool) : (s.setLastMp b).position = s.position := rfl
@[simp] theorem State.setLastMp_hoff (b : Bool) : (s.setLastMp b).hoff = s.hoff := rfl
@[simp] theorem State.setLastMp_voff (b : Bool) : (s.setLastMp b).voff = s.voff := rfl
@[simp] theorem State.setLastMp_lastMp (b : Bool) : (s.setLastMp b).lastMp = b := rfl
@[simp] theorem State.setLastMp_needsUpdate (b : Bool) : (s.setLastMp b).needsUpdate = s.needsUpdate := rfl
@[simp] theorem State.setLastMp_lastUpdateMs (b : Bool) : (s.setLastMp b).lastUpdateMs = s.lastUpdateMs := rfl
@[simp] theorem State.setLastMp_frames (b : Bool) : (s.setLastMp b).frames = s.frames := rfl
@[simp] theorem State.setLastMp_skip (b : Bool) : (s.setLastMp b).skip = s.skip := rfl
@[simp] theorem State.setLastMp_tempo (b : Bool) : (s.setLastMp b).tempo = s.tempo := rfl
@[simp] theorem State.setLastMp_isOpen (b : Bool) : (s.setLastMp b).isOpen = s.isOpen := rfl
@[simp] theorem State.setLastMp_processed (b : Bool) : (s.setLastMp b).processed = s.processed := rfl
@[simp] theorem State.setLastMp_input (b : Bool) : (s.setLastMp b).input = s.input := rfl
@[simp] theorem State.setLastMp_inputLen (b : Bool) : (s.setLastMp b).inputLen = s.inputLen := rfl
@[simp] theorem State.setLastMp_truncated (b : Bool) : (s.setLastMp b).truncated = s.truncated := rfl
@[simp] theorem State.setLastMp_transparentSeen (b : Bool) : (s.setLastMp b).transparentSeen = s.transparentSeen := rfl
@[simp] theorem State.setLastMp_refused (b : Bool) : (s.setLastMp b).refused = s.refused := rfl
@[simp] theorem State.setLastMp_running (b : Bool) : (s.setLastMp b).running = s.running := rfl
@[simp] theorem State.setLastMp_calls (b : Bool) : (s.setLastMp b).calls = s.calls := rfl
@[simp] theorem State.setLastMp_replies (b : Bool) : (s.setLastMp b).replies = s.replies := rfl

@[simp] theorem State.pushFrame_cfg : (s.pushFrame).cfg = s.cfg := rfl
@[simp] theorem State.pushFrame_fb : (s.pushFrame).fb = s.fb := rfl
@[simp] theorem State.pushFrame_pal : (s.pushFrame).pal = s.pal := rfl
@[simp] theorem State.pushFrame_position : (s.pushFrame).position = s.position := rfl
@[simp] theorem State.pushFrame_hoff : (s.pushFrame).hoff = s.hoff := rfl
@[simp] theorem State.pushFrame_voff : (s.pushFrame).voff = s.voff := rfl
@[simp] theorem State.pushFrame_lastMp : (s.pushFrame).lastMp = s.lastMp := rfl
@[simp] theorem State.pushFrame_needsUpdate : (s.pushFrame).needsUpdate = false := rfl
@[simp] theorem State.pushFrame_lastUpdateMs : (s.pushFrame).lastUpdateMs = s.lastUpdateMs := rfl
@[simp] theorem State.pushFrame_frames : (s.pushFrame).frames = s.frames ++ [currentFrame s] := rfl
@[simp] theorem State.pushFrame_skip : (s.pushFrame).skip = s.skip ++ [!s.needsUpdate] := rfl
@[simp] theorem State.pushFrame_tempo : (s.pushFrame).tempo = s.tempo := rfl
@[simp] theorem State.pushFrame_isOpen : (s.pushFrame).isOpen = s.isOpen := rfl
@[simp] theorem State.pushFrame_processed : (s.pushFrame).processed = s.processed := rfl
@[simp] theorem State.pushFrame_input : (s.pushFrame).input = s.input := rfl
@[simp] theorem State.pushFrame_inputLen : (s.pushFrame).inputLen = s.inputLen := rfl
@[simp] theorem State.pushFrame_truncated : (s.pushFrame).truncated = s.truncated := rfl
@[simp] theorem State.pushFrame_transparentSeen : (s.pushFrame).transparentSeen = s.transparentSeen := rfl
@[simp] theorem State.pushFrame_refused : (s.pushFrame).refused = s.refused := rfl
@[simp] theorem State.pushFrame_running : (s.pushFrame).running = s.running := rfl
@[simp] theorem State.pushFrame_calls : (s.pushFrame).calls = s.calls := rfl
@[simp] theorem State.pushFrame_replies : (s.pushFrame).replies = s.replies := rfl

@[simp] theorem State.endProcess_cfg : (s.endProcess).cfg = s.cfg := rfl
@[simp] theorem State.endProcess_fb : (s.endProcess).fb = s.fb := rfl
@[simp] theorem State.endProcess_pal : (s.endProcess).pal = s.pal := rfl
@[simp] theorem State.endProcess_position : (s.endProcess).position = s.position := rfl
@[simp] theorem State.endProcess_hoff : (s.endProcess).hoff = s.hoff := rfl
@[simp] theorem State.endProcess_voff : (s.endProcess).voff = s.voff := rfl
@[simp] theorem State.endProcess_lastMp : (s.endProcess).lastMp = s.lastMp := rfl
@[simp] theorem State.endProcess_needsUpdate : (s.endProcess).needsUpdate = s.needsUpdate := rfl
@[simp] theorem State.endProcess_lastUpdateMs : (s.endProcess).lastUpdateMs = s.lastUpdateMs := rfl
@[simp] theorem State.endProcess_frames : (s.endProcess).frames = s.frames := rfl
@[simp] theorem State.endProcess_skip : (s.endProcess).skip = s.skip := rfl
@[simp] theorem State.endProcess_tempo : (s.endProcess).tempo = s.tempo := rfl
@[simp] theorem State.endProcess_isOpen : (s.endProcess).isOpen = s.isOpen := rfl
@[simp] theorem State.endProcess_processed : (s.endProcess).processed = true := rfl
@[simp] theorem State.endProcess_input : (s.endProcess).input = [] := rfl
@[simp] theorem State.endProcess_inputLen : (s.endProcess).inputLen = s.inputLen := rfl
@[simp] theorem State.endProcess_truncated : (s.endProcess).truncated = (s.truncated || decide (s.inputLen % 24 ≠ 0)) := rfl
@[simp] theorem State.endProcess_transparentSeen : (s.endProcess).transparentSeen = s.transparentSeen := rfl
@[simp] theorem State.endProcess_refused : (s.endProcess).refused = s.refused := rfl
@[simp] theorem State.endProcess_running : (s.endProcess).running = false := rfl
@[simp] theorem State.endProcess_calls : (s.endProcess).calls = s.calls := rfl
@[simp] theorem State.endProcess_replies : (s.endProcess).replies = s.replies := rfl

@[simp] theorem State.resetState_cfg : (s.resetState).cfg = s.cfg := rfl
@[simp] theorem State.resetState_fb : (s.resetState).fb = s.cfg.fbInit := rfl
@[simp] theorem State.resetState_pal : (s.resetState).pal = Vector.replicate 16 0 := rfl
@[simp] theorem State.resetState_position : (s.resetState).position = 0 := rfl
@[simp] theorem State.resetState_hoff : (s.resetState).hoff = 0 := rfl
@[simp] theorem State.resetState_voff : (s.resetState).voff = 0 := rfl
@[simp] theorem State.resetState_lastMp : (s.resetState).lastMp = false := rfl
@[simp] theorem State.resetState_needsUpdate : (s.resetState).needsUpdate = false := rfl
@[simp] theorem State.resetState_lastUpdateMs : (s.resetState).lastUpdateMs = 0 := rfl
@[simp] theorem State.resetState_frames : (s.resetState).frames = [] := rfl
@[simp] theorem State.resetState_skip : (s.resetState).skip = [] := rfl
@[simp] theorem State.resetState_tempo : (s.resetState).tempo = 100 := rfl
@[simp] theorem State.resetState_isOpen : (s.resetState).isOpen = false := rfl
@[simp] theorem State.resetState_processed : (s.resetState).processed = false := rfl
@[simp] theorem State.resetState_input : (s.resetState).input = [] := rfl
@[simp] theorem State.resetState_inputLen : (s.resetState).inputLen = 0 := rfl
@[simp] theorem State.resetState_truncated : (s.resetState).truncated = false := rfl
@[simp] theorem State.resetState_transparentSeen : (s.resetState).transparentSeen = false := rfl
@[simp] theorem State.resetState_refused : (s.resetState).refused = s.refused := rfl
@[simp] theorem State.resetState_running : (s.resetState).running = false := rfl
@[simp] theorem State.resetState_calls : (s.resetState).calls = s.calls := rfl
@[simp] theorem State.resetState_replies : (s.resetState).replies = s.replies := rfl

end

end Sys2Proof.Machine
end

