-- ==== Sys2Proof/Laws/Instructions.lean ====
section
/-! SUPPORT. One lemma for each shared operation of the meanings: what a drawn tile, a shifted framebuffer, a loaded
palette and a sampled image read as, and what each meaning answers. Proofs cite these and do not unfold the
operations. -/

namespace Sys2Proof.Machine

/-! ### Presets -/

theorem execMemoryPreset_suppressed {rep : BitVec 4} {s : State} (h : presetSuppressed rep s = true)
    (color : BitVec 4) : execMemoryPreset color rep s = .next s := by
  simp [execMemoryPreset, h]

theorem execMemoryPreset_fills {rep : BitVec 4} {s : State} (h : presetSuppressed rep s = false)
    (color : BitVec 4) :
    execMemoryPreset color rep s = .next (s.setFb (framebufferOf fun _ _ => color)).markUpdate := by
  simp [execMemoryPreset, h]

theorem presetSuppressed_eq_true (rep : BitVec 4) (s : State) :
    presetSuppressed rep s = true ↔ s.lastMp = true ∧ rep ≠ 0 := by
  simp [presetSuppressed]

/-! ### Tiles -/

theorem inTile_eq_true (row : BitVec 5) (column : BitVec 6) (x y : Nat) :
    inTile row column x y = true ↔
      (column.toNat * 6 ≤ x ∧ x < column.toNat * 6 + 6) ∧ (row.toNat * 12 ≤ y ∧ y < row.toNat * 12 + 12) := by
  simp [inTile, and_assoc]

theorem tileInRange_eq_true (row : BitVec 5) (column : BitVec 6) :
    tileInRange row column = true ↔ row.toNat < 18 ∧ column.toNat < 50 := by
  simp [tileInRange]

/-- Tile pixel (i, j) of a tile on the framebuffer (R141, R142). -/
theorem pixelAt_drawTile_inside (combine : Pixel → Pixel → Pixel) (color0 color1 : Pixel) {row : BitVec 5}
    {column : BitVec 6} (rows : Vector (BitVec 6) 12) (fb : Framebuffer) (h : tileInRange row column = true)
    {i j : Nat} (hi : i < 12) (hj : j < 6) :
    pixelAt (drawTile combine color0 color1 row column rows fb) (column.toNat * 6 + j) (row.toNat * 12 + i) =
      combine (pixelAt fb (column.toNat * 6 + j) (row.toNat * 12 + i)) (chosenColor color0 color1 rows i j) := by
  obtain ⟨hr, hc⟩ := (tileInRange_eq_true row column).1 h
  rw [drawTile, pixelAt_framebufferOf _ (by omega) (by omega),
    if_pos ((inTile_eq_true ..).2 ⟨⟨by omega, by omega⟩, by omega, by omega⟩),
    show row.toNat * 12 + i - row.toNat * 12 = i by omega, show column.toNat * 6 + j - column.toNat * 6 = j by omega]

/-- A pixel outside the tile's rectangle is as before (R145). -/
theorem pixelAt_drawTile_outside (combine : Pixel → Pixel → Pixel) (color0 color1 : Pixel) {row : BitVec 5}
    {column : BitVec 6} (rows : Vector (BitVec 6) 12) (fb : Framebuffer) {x y : Nat} (hx : x < 300) (hy : y < 216)
    (h : inTile row column x y = false) :
    pixelAt (drawTile combine color0 color1 row column rows fb) x y = pixelAt fb x y := by
  simp [drawTile, hx, hy, h]

theorem tileBlock_inRange (combine : Pixel → Pixel → Pixel) (color0 color1 : Pixel) {row : BitVec 5}
    {column : BitVec 6} (rows : Vector (BitVec 6) 12) (s : State) (h : tileInRange row column = true) :
    tileBlock combine color0 color1 row column rows s =
      .next (s.setFb (drawTile combine color0 color1 row column rows s.fb)).markUpdate := by
  simp [tileBlock, h]

theorem tileBlock_skip (combine : Pixel → Pixel → Pixel) (color0 color1 : Pixel) {row : BitVec 5}
    {column : BitVec 6} (rows : Vector (BitVec 6) 12) {s : State} (h : tileInRange row column = false)
    (hp : s.cfg.tileOobPolicy = .skip) :
    tileBlock combine color0 color1 row column rows s = .next s.markUpdate := by
  simp [tileBlock, h, tileOutOfRange, hp]

theorem tileBlock_refuse (combine : Pixel → Pixel → Pixel) (color0 color1 : Pixel) {row : BitVec 5}
    {column : BitVec 6} (rows : Vector (BitVec 6) 12) {s : State} (h : tileInRange row column = false)
    (hp : s.cfg.tileOobPolicy = .refuse) :
    tileBlock combine color0 color1 row column rows s = .refused .tileOutOfRange := by
  simp [tileBlock, h, tileOutOfRange, hp]

/-- A tile instruction draws, or only marks the update, or is refused. -/
theorem tileBlock_cases (combine : Pixel → Pixel → Pixel) (color0 color1 : Pixel) (row : BitVec 5)
    (column : BitVec 6) (rows : Vector (BitVec 6) 12) (s : State) :
    (∃ fb, tileBlock combine color0 color1 row column rows s = .next (s.setFb fb).markUpdate) ∨
      (tileInRange row column = false ∧ s.cfg.tileOobPolicy = .refuse ∧
        tileBlock combine color0 color1 row column rows s = .refused .tileOutOfRange) := by
  cases h : tileInRange row column with
  | true => exact .inl ⟨_, tileBlock_inRange combine color0 color1 rows s h⟩
  | false =>
    cases hp : s.cfg.tileOobPolicy with
    | skip => exact .inl ⟨s.fb, tileBlock_skip combine color0 color1 rows h hp⟩
    | refuse => exact .inr ⟨rfl, rfl, tileBlock_refuse combine color0 color1 rows h hp⟩

/-! ### Scrolls -/

theorem pixelAt_shiftRight6 (mode : ScrollMode) (fb : Framebuffer) {x y : Nat} (hx : x < 300) (hy : y < 216) :
    pixelAt (shiftRight6 mode fb) x y = if 6 ≤ x then pixelAt fb (x - 6) y else mode.fill fb (x + 294) y := by
  simp [shiftRight6, hx, hy]

theorem pixelAt_shiftLeft6 (mode : ScrollMode) (fb : Framebuffer) {x y : Nat} (hx : x < 300) (hy : y < 216) :
    pixelAt (shiftLeft6 mode fb) x y = if x ≤ 293 then pixelAt fb (x + 6) y else mode.fill fb (x - 294) y := by
  simp [shiftLeft6, hx, hy]

theorem pixelAt_shiftDown12 (mode : ScrollMode) (fb : Framebuffer) {x y : Nat} (hx : x < 300) (hy : y < 216) :
    pixelAt (shiftDown12 mode fb) x y = if 12 ≤ y then pixelAt fb x (y - 12) else mode.fill fb x (y + 204) := by
  simp [shiftDown12, hx, hy]

theorem pixelAt_shiftUp12 (mode : ScrollMode) (fb : Framebuffer) {x y : Nat} (hx : x < 300) (hy : y < 216) :
    pixelAt (shiftUp12 mode fb) x y = if y ≤ 203 then pixelAt fb x (y + 12) else mode.fill fb x (y - 204) := by
  simp [shiftUp12, hx, hy]

@[simp] theorem ScrollMode.fill_copy (fb : Framebuffer) (a b : Nat) :
    ScrollMode.copy.fill fb a b = pixelAt fb a b := rfl

@[simp] theorem ScrollMode.fill_preset (c : Pixel) (fb : Framebuffer) (a b : Nat) :
    (ScrollMode.preset c).fill fb a b = c := rfl

@[simp] theorem shiftH_stay (mode : ScrollMode) (fb : Framebuffer) : shiftH mode .stay fb = fb := rfl
@[simp] theorem shiftH_right (mode : ScrollMode) (fb : Framebuffer) :
    shiftH mode .right fb = shiftRight6 mode fb := rfl
@[simp] theorem shiftH_left (mode : ScrollMode) (fb : Framebuffer) :
    shiftH mode .left fb = shiftLeft6 mode fb := rfl
@[simp] theorem shiftH_three (mode : ScrollMode) (fb : Framebuffer) : shiftH mode .three fb = fb := rfl
@[simp] theorem shiftV_stay (mode : ScrollMode) (fb : Framebuffer) : shiftV mode .stay fb = fb := rfl
@[simp] theorem shiftV_down (mode : ScrollMode) (fb : Framebuffer) :
    shiftV mode .down fb = shiftDown12 mode fb := rfl
@[simp] theorem shiftV_up (mode : ScrollMode) (fb : Framebuffer) : shiftV mode .up fb = shiftUp12 mode fb := rfl
@[simp] theorem shiftV_three (mode : ScrollMode) (fb : Framebuffer) : shiftV mode .three fb = fb := rfl

/-! What the coarse shifts read as, by source column and row. -/

theorem pixelAt_shiftH_preset (c : Pixel) (fb : Framebuffer) (cmd : HCmd) {x y : Nat} (hx : x < 300) (hy : y < 216) :
    pixelAt (shiftH (.preset c) cmd fb) x y =
      match presetSourceX cmd x with
      | some a => pixelAt fb a y
      | none => c := by
  cases cmd <;> simp [presetSourceX, pixelAt_shiftRight6, pixelAt_shiftLeft6, hx, hy]
  · split <;> rfl
  · simp only [show x < 294 ↔ x ≤ 293 by omega]; split <;> rfl

theorem pixelAt_shiftV_preset (c : Pixel) (fb : Framebuffer) (cmd : VCmd) {x y : Nat} (hx : x < 300) (hy : y < 216) :
    pixelAt (shiftV (.preset c) cmd fb) x y =
      match presetSourceY cmd y with
      | some b => pixelAt fb x b
      | none => c := by
  cases cmd <;> simp [presetSourceY, pixelAt_shiftDown12, pixelAt_shiftUp12, hx, hy]
  · split <;> rfl
  · simp only [show y < 204 ↔ y ≤ 203 by omega]; split <;> rfl

theorem pixelAt_shiftH_copy (fb : Framebuffer) (cmd : HCmd) {x y : Nat} (hx : x < 300) (hy : y < 216) :
    pixelAt (shiftH .copy cmd fb) x y = pixelAt fb (copySourceX cmd x) y := by
  cases cmd <;> simp [copySourceX, pixelAt_shiftRight6, pixelAt_shiftLeft6, hx, hy]
  · split <;> exact congrArg (fun a => pixelAt fb a y) (by omega)
  · split <;> exact congrArg (fun a => pixelAt fb a y) (by omega)

theorem pixelAt_shiftV_copy (fb : Framebuffer) (cmd : VCmd) {x y : Nat} (hx : x < 300) (hy : y < 216) :
    pixelAt (shiftV .copy cmd fb) x y = pixelAt fb x (copySourceY cmd y) := by
  cases cmd <;> simp [copySourceY, pixelAt_shiftDown12, pixelAt_shiftUp12, hx, hy]
  · split <;> exact congrArg (fun b => pixelAt fb x b) (by omega)
  · split <;> exact congrArg (fun b => pixelAt fb x b) (by omega)

theorem presetSourceX_lt {cmd : HCmd} {x a : Nat} (hx : x < 300) (e : presetSourceX cmd x = some a) : a < 300 := by
  unfold presetSourceX at e
  split at e <;> (try split at e) <;> simp at e <;> omega

theorem presetSourceY_lt {cmd : VCmd} {y b : Nat} (hy : y < 216) (e : presetSourceY cmd y = some b) : b < 216 := by
  unfold presetSourceY at e
  split at e <;> (try split at e) <;> simp at e <;> omega

theorem copySourceX_lt (cmd : HCmd) {x : Nat} (hx : x < 300) : copySourceX cmd x < 300 := by
  unfold copySourceX; split <;> omega

theorem copySourceY_lt (cmd : VCmd) {y : Nat} (hy : y < 216) : copySourceY cmd y < 216 := by
  unfold copySourceY; split <;> omega

theorem scrollRefusal_eq_none {cfg : Config} (hCmd : HCmd) (hOffset : BitVec 3) (vCmd : VCmd) (vOffset : BitVec 4)
    (hc : cfg.scrollCmd3Policy = .noShift ∨ scrollCmdsDefined hCmd vCmd = true)
    (ho : cfg.offsetPolicy = .clamp ∨ offsetsInRange hOffset vOffset = true) :
    scrollRefusal cfg hCmd hOffset vCmd vOffset = none := by
  rcases hc with hc | hc <;> rcases ho with ho | ho <;> simp [scrollRefusal, hc, ho]

theorem scroll_of_no_refusal {mode : ScrollMode} {hCmd : HCmd} {hOffset : BitVec 3} {vCmd : VCmd}
    {vOffset : BitVec 4} {s : State} (h : scrollRefusal s.cfg hCmd hOffset vCmd vOffset = none) :
    scroll mode hCmd hOffset vCmd vOffset s =
      .next (((s.setFb (shiftV mode vCmd (shiftH mode hCmd s.fb))).setOffsets
        (clampHOffset hOffset) (clampVOffset vOffset)).markUpdate) := by
  simp [scroll, h]

theorem scroll_of_refusal {mode : ScrollMode} {hCmd : HCmd} {hOffset : BitVec 3} {vCmd : VCmd}
    {vOffset : BitVec 4} {s : State} {r : Refusal} (h : scrollRefusal s.cfg hCmd hOffset vCmd vOffset = some r) :
    scroll mode hCmd hOffset vCmd vOffset s = .refused r := by
  simp [scroll, h]

theorem clampHOffset_le (h : BitVec 3) : (clampHOffset h).toNat ≤ 5 := by revert h; decide

theorem clampVOffset_le (v : BitVec 4) : (clampVOffset v).toNat ≤ 11 := by revert v; decide

theorem clampHOffset_toNat (h : BitVec 3) : (clampHOffset h).toNat = min h.toNat 5 := by revert h; decide

theorem clampVOffset_toNat (v : BitVec 4) : (clampVOffset v).toNat = min v.toNat 11 := by revert v; decide

/-! ### Colours -/

theorem palEntry_loadPalette (base : Nat) (colors : Vector Rgb12 8) (pal : Palette) (i : Pixel) :
    palEntry (loadPalette base colors pal) i =
      if h : base ≤ i.toNat ∧ i.toNat < base + 8 then expandColor (colors[i.toNat - base]'(by omega))
      else palEntry pal i := by
  simp only [loadPalette, palEntry_paletteOf, palEntry_eq_getElem?, Option.getD_some]

/-- `changed` says whether the palette differs after the load (R192). -/
theorem colorsChange_eq_false {base : Nat} (hb : base ≤ 8) (colors : Vector Rgb12 8) (pal : Palette) :
    colorsChange base colors pal = false ↔ loadPalette base colors pal = pal := by
  have key : colorsChange base colors pal = false ↔
      ∀ k, (hk : k < 8) → pal[base + k] = expandColor (colors[k]) := by
    simp only [colorsChange, List.any_eq_false, List.mem_range, decide_eq_true_eq, ne_eq, not_not]
    refine forall_congr' fun k => ⟨fun h hk => ?_, fun h hk => ?_⟩
    · simpa [hk, show base + k < 16 by omega] using h hk
    · simpa [hk, show base + k < 16 by omega] using h hk
  rw [key]
  constructor
  · intro h
    refine palette_ext fun i => ?_
    rw [palEntry_loadPalette]
    split
    · rename_i hi
      have := h (i.toNat - base) (by omega)
      rw [← this, palEntry]
      congr 1; omega
    · rfl
  · intro h k hk
    have e := congrArg (fun p => palEntry p (BitVec.ofNat 4 (base + k))) h
    have hm : (base + k) % 16 = base + k := Nat.mod_eq_of_lt (by omega)
    simp only [palEntry_loadPalette, BitVec.toNat_ofNat, Nat.reducePow, hm] at e
    rw [dif_pos ⟨by omega, by omega⟩] at e
    simp only [palEntry, BitVec.toNat_ofNat, Nat.reducePow, hm] at e
    simpa using e.symm

theorem loadColors_of_change {base : Nat} {colors : Vector Rgb12 8} {s : State}
    (h : colorsChange base colors s.pal = true) :
    loadColors base colors s = (s.setPal (loadPalette base colors s.pal)).markUpdate := by
  simp [loadColors, h]

/-- Loading the colours the entries already hold changes nothing at all (R194). -/
theorem loadColors_of_no_change {base : Nat} (hb : base ≤ 8) {colors : Vector Rgb12 8} {s : State}
    (h : colorsChange base colors s.pal = false) : loadColors base colors s = s := by
  simp [loadColors, h, (colorsChange_eq_false hb colors s.pal).1 h, State.setPal]

/-! ### The sampler -/

theorem get_sampleRgb (s : State) {x y : Nat} (hx : x < 288) (hy : y < 192) :
    Grid.get (sampleRgb s) x y =
      some (palEntry s.pal (pixelAt s.fb (6 + s.hoff.toNat + x) (12 + s.voff.toNat + y))) := by
  simp [sampleRgb, sampleAt, hx, hy]

theorem get_sampleIndexed (s : State) {x y : Nat} (hx : x < 288) (hy : y < 192) :
    Grid.get (sampleIndexed s) x y = some (pixelAt s.fb (6 + s.hoff.toNat + x) (12 + s.voff.toNat + y)) := by
  simp [sampleIndexed, sampleAt, hx, hy]

theorem sampleInside_of_range {s : State} (hh : s.hoff.toNat ≤ 5) (hv : s.voff.toNat ≤ 11) :
    sampleInside s = true := by
  simp [sampleInside]; omega

theorem framePush_of_range {s : State} (hh : s.hoff.toNat ≤ 5) (hv : s.voff.toNat ≤ 11) :
    framePush s = .next s.pushFrame := by
  simp [framePush, sampleInside_of_range hh hv]

/-! ### The dispatcher -/

/-- What an instruction that takes a next state may have written: the framebuffer, the palette, the two offsets, the
update flag with its time, and TRANSPARENT_SEEN. Every other field is as before. -/
def State.drawnFrom (t s : State) : Prop :=
  t = { s with fb := t.fb, pal := t.pal, hoff := t.hoff, voff := t.voff, needsUpdate := t.needsUpdate,
               lastUpdateMs := t.lastUpdateMs, transparentSeen := t.transparentSeen }

theorem scroll_cases (mode : ScrollMode) (hCmd : HCmd) (hOffset : BitVec 3) (vCmd : VCmd) (vOffset : BitVec 4)
    (s : State) :
    (∃ fb, scroll mode hCmd hOffset vCmd vOffset s =
      .next (((s.setFb fb).setOffsets (clampHOffset hOffset) (clampVOffset vOffset)).markUpdate)) ∨
    ∃ r, scrollRefusal s.cfg hCmd hOffset vCmd vOffset = some r ∧
      scroll mode hCmd hOffset vCmd vOffset s = .refused r := by
  cases h : scrollRefusal s.cfg hCmd hOffset vCmd vOffset with
  | none => exact .inl ⟨_, scroll_of_no_refusal h⟩
  | some r => exact .inr ⟨r, rfl, scroll_of_refusal h⟩

/-- Everything an instruction can do: one of five kinds of next state, or a refusal. No instruction faults (R260). -/
theorem exec_cases (i : Instr) (s : State) :
    exec i s = .next s ∨
    (∃ fb, exec i s = .next (s.setFb fb).markUpdate) ∨
    (∃ fb h v, h.toNat ≤ 5 ∧ v.toNat ≤ 11 ∧ exec i s = .next (((s.setFb fb).setOffsets h v).markUpdate)) ∨
    (∃ base colors, base ≤ 8 ∧ colorsChange base colors s.pal = true ∧
      exec i s = .next (s.setPal (loadPalette base colors s.pal)).markUpdate) ∨
    exec i s = .next s.setTransparentSeen ∨
    ∃ r, exec i s = .refused r := by
  have colors (base : Nat) (hb : base ≤ 8) (cs : Vector Rgb12 8) :
      loadColors base cs s = s ∨ colorsChange base cs s.pal = true ∧
        loadColors base cs s = (s.setPal (loadPalette base cs s.pal)).markUpdate := by
    cases h : colorsChange base cs s.pal with
    | true => exact .inr ⟨rfl, loadColors_of_change h⟩
    | false => exact .inl (loadColors_of_no_change hb h)
  cases i with
  | memoryPreset color rep =>
    cases h : presetSuppressed rep s with
    | true => exact .inl (execMemoryPreset_suppressed h color)
    | false => exact .inr (.inl ⟨_, execMemoryPreset_fills h color⟩)
  | borderPreset color => exact .inr (.inl ⟨_, rfl⟩)
  | tileNormal c0 c1 row column rows =>
    rcases tileBlock_cases (fun _ chosen => chosen) c0 c1 row column rows s with h | ⟨-, -, h⟩
    · exact .inr (.inl h)
    · exact .inr (.inr (.inr (.inr (.inr ⟨_, h⟩))))
  | tileXor c0 c1 row column rows =>
    rcases tileBlock_cases (fun old chosen => old ^^^ chosen) c0 c1 row column rows s with h | ⟨-, -, h⟩
    · exact .inr (.inl h)
    · exact .inr (.inr (.inr (.inr (.inr ⟨_, h⟩))))
  | scrollPreset color hc ho vc vo =>
    rcases scroll_cases (.preset color) hc ho vc vo s with ⟨fb, h⟩ | ⟨r, -, h⟩
    · exact .inr (.inr (.inl ⟨fb, _, _, clampHOffset_le ho, clampVOffset_le vo, h⟩))
    · exact .inr (.inr (.inr (.inr (.inr ⟨_, h⟩))))
  | scrollCopy hc ho vc vo =>
    rcases scroll_cases .copy hc ho vc vo s with ⟨fb, h⟩ | ⟨r, -, h⟩
    · exact .inr (.inr (.inl ⟨fb, _, _, clampHOffset_le ho, clampVOffset_le vo, h⟩))
    · exact .inr (.inr (.inr (.inr (.inr ⟨_, h⟩))))
  | defineTransparent => exact .inr (.inr (.inr (.inr (.inl rfl))))
  | loadColorsLow cs =>
    rcases colors 0 (by omega) cs with h | ⟨hc, h⟩
    · exact .inl (congrArg Host.Outcome.next h)
    · exact .inr (.inr (.inr (.inl ⟨0, cs, by omega, hc, congrArg Host.Outcome.next h⟩)))
  | loadColorsHigh cs =>
    rcases colors 8 (by omega) cs with h | ⟨hc, h⟩
    · exact .inl (congrArg Host.Outcome.next h)
    · exact .inr (.inr (.inr (.inl ⟨8, cs, by omega, hc, congrArg Host.Outcome.next h⟩)))

/-- The frame of every instruction: it writes drawing state only. -/
theorem exec_drawnFrom {i : Instr} {s t : State} (h : exec i s = .next t) : t.drawnFrom s := by
  rcases exec_cases i s with e | ⟨_, e⟩ | ⟨_, _, _, _, _, e⟩ | ⟨_, _, _, _, e⟩ | e | ⟨_, e⟩ <;> rw [e] at h <;>
    cases h <;> rfl

/-- An instruction keeps the offsets in range (R26, R27). -/
theorem exec_offsets {i : Instr} {s t : State} (h : exec i s = .next t) (hh : s.hoff.toNat ≤ 5)
    (hv : s.voff.toNat ≤ 11) : t.hoff.toNat ≤ 5 ∧ t.voff.toNat ≤ 11 := by
  rcases exec_cases i s with e | ⟨_, e⟩ | ⟨_, _, _, a, b, e⟩ | ⟨_, _, _, _, e⟩ | e | ⟨_, e⟩ <;> rw [e] at h <;> cases h
  · exact ⟨hh, hv⟩
  · exact ⟨hh, hv⟩
  · exact ⟨a, b⟩
  · exact ⟨hh, hv⟩
  · exact ⟨hh, hv⟩

/-- What a refused instruction says of its operands and of the parameters (R262). -/
theorem exec_refused {i : Instr} {s : State} {r : Refusal} (h : exec i s = .refused r) :
    i.wellFormed = false ∧ ¬s.cfg.neverRefuses := by
  have sc : ∀ hc ho vc vo r, scrollRefusal s.cfg hc ho vc vo = some r →
      (scrollCmdsDefined hc vc && offsetsInRange ho vo) = false ∧ ¬s.cfg.neverRefuses := by
    intro hc ho vc vo r e
    unfold scrollRefusal at e
    split at e
    · rename_i x; simp [x.2, Config.neverRefuses, x.1]
    · split at e
      · rename_i x; simp [x.2, Config.neverRefuses, x.1]
      · cases e
  cases i with
  | memoryPreset c rp => unfold exec execMemoryPreset at h; simp only at h; split at h <;> cases h
  | borderPreset c => cases h
  | tileNormal c0 c1 row column rows =>
    rcases tileBlock_cases (fun _ chosen => chosen) c0 c1 row column rows s with ⟨fb, e⟩ | ⟨h1, h2, e⟩
    · cases e.symm.trans h
    · exact ⟨h1, by simp [Config.neverRefuses, h2]⟩
  | tileXor c0 c1 row column rows =>
    rcases tileBlock_cases (fun old chosen => old ^^^ chosen) c0 c1 row column rows s with ⟨fb, e⟩ | ⟨h1, h2, e⟩
    · cases e.symm.trans h
    · exact ⟨h1, by simp [Config.neverRefuses, h2]⟩
  | scrollPreset c hc ho vc vo =>
    rcases scroll_cases (.preset c) hc ho vc vo s with ⟨fb, e⟩ | ⟨_, h1, e⟩
    · cases e.symm.trans h
    · exact sc hc ho vc vo _ h1
  | scrollCopy hc ho vc vo =>
    rcases scroll_cases .copy hc ho vc vo s with ⟨fb, e⟩ | ⟨_, h1, e⟩
    · cases e.symm.trans h
    · exact sc hc ho vc vo _ h1
  | defineTransparent => cases h
  | loadColorsLow cs => cases h
  | loadColorsHigh cs => cases h

/-- The update flag after an instruction (R29). -/
theorem exec_needsUpdate {i : Instr} {s t : State} (h : exec i s = .next t) :
    t.needsUpdate = (s.needsUpdate || instrMarks i s) := by
  have lc : ∀ base cs, (loadColors base cs s).needsUpdate = (s.needsUpdate || colorsChange base cs s.pal) := by
    intro base cs; unfold loadColors; split <;> simp_all
  cases i with
  | memoryPreset c r =>
    unfold exec execMemoryPreset at h; simp only at h; split at h <;> cases h <;> simp [instrMarks, *]
  | borderPreset c => cases h; simp [instrMarks]
  | tileNormal c0 c1 row column rows =>
    rcases tileBlock_cases (fun _ chosen => chosen) c0 c1 row column rows s with ⟨fb, e⟩ | ⟨_, _, e⟩ <;>
      cases e.symm.trans h
    simp [instrMarks]
  | tileXor c0 c1 row column rows =>
    rcases tileBlock_cases (fun old chosen => old ^^^ chosen) c0 c1 row column rows s with ⟨fb, e⟩ | ⟨_, _, e⟩ <;>
      cases e.symm.trans h
    simp [instrMarks]
  | scrollPreset c hc ho vc vo =>
    rcases scroll_cases (.preset c) hc ho vc vo s with ⟨fb, e⟩ | ⟨_, _, e⟩ <;> cases e.symm.trans h
    simp [instrMarks]
  | scrollCopy hc ho vc vo =>
    rcases scroll_cases .copy hc ho vc vo s with ⟨fb, e⟩ | ⟨_, _, e⟩ <;> cases e.symm.trans h
    simp [instrMarks]
  | defineTransparent => cases h; simp [instrMarks]
  | loadColorsLow cs => cases h; simp [instrMarks, lc]
  | loadColorsHigh cs => cases h; simp [instrMarks, lc]

end Sys2Proof.Machine
end

