-- ==== Sys2Proof/Laws/PerInstr.lean ====
section
/-! SUPPORT. A statement made for each instruction: the shape of its encoding (R70, R71, R78, R86). -/

namespace Sys2Proof.Laws.EncodedShape

/-- The encoding is 24 bytes, its command byte is 0x09, its instruction byte is the code, and its parity bytes are 0. -/
def Statement (i : Instr) : Prop :=
  (encode i).length = 24 ∧ pktByte (encode i) 0 = 0x09 ∧ pktByte (encode i) 1 = i.code.setWidth 8 ∧
    (encode i).take 4 = [0x09, i.code.setWidth 8, 0, 0] ∧ (encode i).drop 20 = [0, 0, 0, 0]

/-- Sixteen payload bytes give a packet of the shape. -/
theorem of_payload {i : Instr} (h : i.payload.length = 16) : Statement i := by
  refine ⟨by simp [encode, packetOf, h], rfl, rfl, rfl, ?_⟩
  simp [encode, packetOf, h]

theorem memoryPreset (color rep : BitVec 4) : Statement (.memoryPreset color rep) := of_payload rfl

theorem borderPreset (color : BitVec 4) : Statement (.borderPreset color) := of_payload rfl

theorem tileNormal (color0 color1 : BitVec 4) (row : BitVec 5) (column : BitVec 6) (rows : Vector (BitVec 6) 12) :
    Statement (.tileNormal color0 color1 row column rows) := of_payload (by simp [Instr.payload, tilePayload])

theorem scrollPreset (color : BitVec 4) (hCmd : HCmd) (hOffset : BitVec 3) (vCmd : VCmd) (vOffset : BitVec 4) :
    Statement (.scrollPreset color hCmd hOffset vCmd vOffset) := of_payload rfl

theorem scrollCopy (hCmd : HCmd) (hOffset : BitVec 3) (vCmd : VCmd) (vOffset : BitVec 4) :
    Statement (.scrollCopy hCmd hOffset vCmd vOffset) := of_payload rfl

theorem defineTransparent : Statement .defineTransparent := of_payload rfl

theorem colors_length (colors : Vector Rgb12 8) : (colors.toList.flatMap Rgb12.payload).length = 16 := by
  simp [List.length_flatMap, Rgb12.payload]

theorem loadColorsLow (colors : Vector Rgb12 8) : Statement (.loadColorsLow colors) :=
  of_payload (colors_length colors)

theorem loadColorsHigh (colors : Vector Rgb12 8) : Statement (.loadColorsHigh colors) :=
  of_payload (colors_length colors)

theorem tileXor (color0 color1 : BitVec 4) (row : BitVec 5) (column : BitVec 6) (rows : Vector (BitVec 6) 12) :
    Statement (.tileXor color0 color1 row column rows) := of_payload (by simp [Instr.payload, tilePayload])

end Sys2Proof.Laws.EncodedShape
end

