-- ==== Sys2Proof/Laws/Steps.lean ====
section
/-! SUPPORT. What a packet step, a step of `process` and a host call can do, said once. -/

namespace Sys2Proof.Machine

/-! ### The end of a packet step -/

theorem finishPacket_push {s : State} (h : (s.position + 1) % 12 = 0) : finishPacket s = framePush s.advance := by
  simp [finishPacket, h]

theorem finishPacket_no_push {s : State} (h : (s.position + 1) % 12 ≠ 0) : finishPacket s = .next s.advance := by
  simp [finishPacket, h]

/-- A packet step that ends well advances the position, and pushes a frame when the new position is a multiple of
12 (R105, R106, R213). -/
theorem finishPacket_next {s t : State} (h : finishPacket s = .next t) :
    ((s.position + 1) % 12 = 0 ∧ sampleInside s.advance = true ∧ t = s.advance.pushFrame) ∨
      ((s.position + 1) % 12 ≠ 0 ∧ t = s.advance) := by
  by_cases hp : (s.position + 1) % 12 = 0
  · rw [finishPacket_push hp, framePush] at h
    split at h
    · cases h; exact .inl ⟨hp, ‹_›, rfl⟩
    · cases h
  · rw [finishPacket_no_push hp] at h
    cases h; exact .inr ⟨hp, rfl⟩

/-- With the offsets in range a packet step always ends in a next state. -/
theorem finishPacket_of_range {s : State} (hh : s.hoff.toNat ≤ 5) (hv : s.voff.toNat ≤ 11) :
    finishPacket s = .next (if (s.position + 1) % 12 = 0 then s.advance.pushFrame else s.advance) := by
  split
  · rename_i h; rw [finishPacket_push h]; exact framePush_of_range hh hv
  · rename_i h; exact finishPacket_no_push h

/-! ### The packet step -/

theorem packetStep_instr {pkt : List Byte} {i : Instr} (h : decode pkt = .instr i) (s : State) :
    packetStep pkt s = instrStep i s := by
  simp [packetStep, h]

theorem packetStep_reserved {pkt : List Byte} {c : BitVec 6} (h : decode pkt = .reserved c) (s : State) :
    packetStep pkt s = finishPacket (s.setLastMp false) := by
  simp [packetStep, h]

theorem packetStep_notCdg {pkt : List Byte} (h : decode pkt = .notCdg) (s : State) :
    packetStep pkt s = finishPacket s := by
  simp [packetStep, h]

theorem instrStep_next {i : Instr} {s t : State} (h : exec i s = .next t) :
    instrStep i s = finishPacket (t.setLastMp i.isMemoryPreset) := by
  simp [instrStep, h]

theorem instrStep_refused {i : Instr} {s : State} {r : Refusal} (h : exec i s = .refused r) :
    instrStep i s = .next s.markRefused := by
  simp [instrStep, h]

/-- Everything a packet step that answers a next state can have done: it sets the refusal mark and nothing else, or
it ends a state that an instruction's effect or no effect left, with LAST_MP written by the dispatcher. -/
theorem packetStep_next {pkt : List Byte} {s t : State} (h : packetStep pkt s = .next t) :
    t = s.markRefused ∨
    (∃ i u, decode pkt = .instr i ∧ exec i s = .next u ∧ finishPacket (u.setLastMp i.isMemoryPreset) = .next t) ∨
    (∃ c, decode pkt = .reserved c ∧ finishPacket (s.setLastMp false) = .next t) ∨
    (decode pkt = .notCdg ∧ finishPacket s = .next t) := by
  cases hd : decode pkt with
  | instr i =>
    rw [packetStep_instr hd] at h
    cases he : exec i s with
    | next u => rw [instrStep_next he] at h; exact .inr (.inl ⟨i, u, rfl, he, h⟩)
    | fault f => simp [instrStep, he] at h
    | refused r => rw [instrStep_refused he] at h; cases h; exact .inl rfl
  | reserved c => rw [packetStep_reserved hd] at h; exact .inr (.inr (.inl ⟨c, rfl, h⟩))
  | notCdg => rw [packetStep_notCdg hd] at h; exact .inr (.inr (.inr ⟨rfl, h⟩))
  | notAPacket => simp [packetStep, hd] at h

/-! ### Steps -/

theorem step_refused {s : State} (h : s.refused = true) : step s = .refused .afterRefusal := by
  simp [step, h]

theorem step_running {s : State} (h : s.refused = false) (hr : s.running = true) : step s = processStep s := by
  simp [step, h, hr]

theorem step_serving {s : State} (h : s.refused = false) (hr : s.running = false) : step s = serveCall s := by
  simp [step, h, hr]

theorem processStep_packet {s : State} {pkt : List Byte} (h : s.position < s.inputLen / 24)
    (hf : s.fetch = some pkt) : processStep s = packetStep pkt s := by
  simp [processStep, h, hf]

theorem processStep_end {s : State} (h : s.inputLen / 24 ≤ s.position) :
    processStep s = .next (s.endProcess.reply (.bool true)) := by
  simp [processStep, Nat.not_lt.2 h]

theorem serveCall_nil {s : State} (h : s.calls = []) : serveCall s = .next s := by
  simp [serveCall, h]

theorem serveCall_returned {s t : State} {c : HostCall} {rest : List HostCall} {r : HostReply}
    (h : s.calls = c :: rest) (hp : perform c (s.setCalls rest) = .returned r t) :
    serveCall s = .next (t.reply r) := by
  simp [serveCall, h, hp]

theorem serveCall_begun {s t : State} {c : HostCall} {rest : List HostCall}
    (h : s.calls = c :: rest) (hp : perform c (s.setCalls rest) = .begun t) : serveCall s = .next t := by
  simp [serveCall, h, hp]

theorem serveCall_refused {s t : State} {c : HostCall} {rest : List HostCall} {r : Refusal}
    (h : s.calls = c :: rest) (hp : perform c (s.setCalls rest) = .refused r t) :
    serveCall s = .next t.markRefused := by
  simp [serveCall, h, hp]

/-- A packet of an open decoder's input is there, and has 24 bytes (R51, R57). -/
theorem fetch_of_inv {s : State} (hi : s.Inv) (hr : s.running = true) (h : s.position < s.inputLen / 24) :
    ∃ pkt, s.fetch = some pkt ∧ pkt.length = 24 := by
  obtain ⟨ho, hp⟩ := hi.runningPhase hr
  obtain ⟨pkt, hpkt⟩ := s.input.readBytes_isSome (24 * s.position) 24 fun k _ hk => by
    rw [hi.inputReadable k, ho, hp]; simp; omega
  exact ⟨pkt, hpkt, (Memory.readBytes_eq_some hpkt).1⟩

/-- What the end of a packet step leaves alone. -/
theorem finishPacket_frame {s t : State} (h : finishPacket s = .next t) :
    t = { s with position := s.position + 1, frames := t.frames, skip := t.skip, needsUpdate := t.needsUpdate } := by
  rcases finishPacket_next h with ⟨_, _, rfl⟩ | ⟨_, rfl⟩ <;> rfl

/-- What a packet step writes no field of: the parameters, the tempo, the lifecycle bits, the input, the host's calls
and replies (R111). -/
theorem packetStep_keeps {pkt : List Byte} {s t : State} (h : packetStep pkt s = .next t) :
    t.cfg = s.cfg ∧ t.tempo = s.tempo ∧ t.isOpen = s.isOpen ∧ t.processed = s.processed ∧ t.input = s.input ∧
      t.inputLen = s.inputLen ∧ t.truncated = s.truncated ∧ t.running = s.running ∧ t.calls = s.calls ∧
      t.replies = s.replies := by
  rcases packetStep_next h with rfl | ⟨i, u, hd, he, hf⟩ | ⟨c, hd, hf⟩ | ⟨hd, hf⟩
  · exact ⟨rfl, rfl, rfl, rfl, rfl, rfl, rfl, rfl, rfl, rfl⟩
  · have hu := exec_drawnFrom he
    rw [finishPacket_frame hf, hu]
    exact ⟨rfl, rfl, rfl, rfl, rfl, rfl, rfl, rfl, rfl, rfl⟩
  · rw [finishPacket_frame hf]
    exact ⟨rfl, rfl, rfl, rfl, rfl, rfl, rfl, rfl, rfl, rfl⟩
  · rw [finishPacket_frame hf]
    exact ⟨rfl, rfl, rfl, rfl, rfl, rfl, rfl, rfl, rfl, rfl⟩

/-- Every operation but `open`: it answers and changes nothing, or stores the tempo, or is a `process` that begins. -/
theorem perform_cases (c : HostCall) (s : State) (h : ∀ bytes, c ≠ .openStream bytes) :
    (∃ r, perform c s = .returned r s) ∨
    (∃ p, c = .setTempo p ∧ perform c s = .returned .done (s.setTempo p)) ∨
    (c = .process ∧ perform c s = .begun { s with running := true } ∧ s.isOpen = true ∧ s.processed = false) := by
  have guard : ∀ a, ∃ r, guardedQuery s a = .returned r s := by
    intro a; unfold guardedQuery; split <;> exact ⟨_, rfl⟩
  cases c with
  | openStream bytes => exact absurd rfl (h bytes)
  | process =>
    unfold perform beginProcess
    simp only
    split
    · exact .inl ⟨_, rfl⟩
    · split
      · exact .inl ⟨_, rfl⟩
      · rename_i h1 h2
        exact .inr (.inr ⟨trivial, rfl, by simpa using h1, by simpa using h2⟩)
  | frameAt ms => exact .inl (guard _)
  | canSkip ms => exact .inl (guard _)
  | lastUpdateMs => exact .inl (guard _)
  | duration => exact .inl (guard _)
  | setTempo p => exact .inr (.inl ⟨p, rfl, rfl⟩)
  | tempo => exact .inl ⟨_, rfl⟩
  | isOpen => exact .inl ⟨_, rfl⟩

/-- `open` of nothing (R230). -/
theorem perform_open_empty (s : State) :
    perform (.openStream []) s = .returned (.error .emptyInput) s.resetState := rfl

/-- `open` of more than MAX_PACKETS packets (R230, R262). -/
theorem perform_open_tooLong {bytes : List Byte} {s : State} (h : s.cfg.maxPackets < bytes.length / 24) :
    perform (.openStream bytes) s = .refused .inputTooLong s.resetState := by
  unfold perform openStream
  simp only
  rw [if_neg (by omega), if_pos h]

/-- `open` of bytes that it accepts (R230). -/
theorem perform_open_accepted {bytes : List Byte} {s : State} (h0 : bytes ≠ [])
    (h : bytes.length / 24 ≤ s.cfg.maxPackets) :
    perform (.openStream bytes) s = .returned (.bool true)
      { s.resetState with input := Memory.ofBytes bytes, inputLen := bytes.length, isOpen := true } := by
  unfold perform openStream
  simp only
  rw [if_neg (by simpa using h0), if_neg (by omega)]

/-- One step of a run. -/
theorem run_of_next {n : Nat} {s t : State} (h : step s = .next t) :
    Host.Core.run Sys2Proof.core (n + 1) s = Host.Core.run Sys2Proof.core n t := by
  have h' : Sys2Proof.core.step s = .next t := h
  simp only [Host.Core.run, h']

end Sys2Proof.Machine
end

