-- ==== Sys2Proof/Tests/Slice0.lean ====
section
/-! SUPPORT. Small tests, each against a value of spec/ (the vectors S1 to S6, V1 to V12 of spec/95_test_vectors.md, or
a hand calculation from a rule), and for every obligation with hypotheses a concrete input that meets them. -/

namespace Sys2Proof.Tests

open Sys2Proof.Machine

set_option maxRecDepth 8192

/-! ### Helpers -/

/-- A field of the next state; none for a fault or a refusal. -/
def after {α : Type} (f : State → α) (r : Result) : Option α :=
  match r with
  | .next t => some (f t)
  | .fault _ => none
  | .refused _ => none

/-- A field after the steps of some packets. -/
def afterPackets {α : Type} (f : State → α) : List (List Byte) → State → Option α
  | [], s => some (f s)
  | p :: ps, s =>
      match packetStep p s with
      | .next t => afterPackets f ps t
      | .fault _ => none
      | .refused _ => none

/-- A framebuffer that tells columns and rows apart: pixel (x, y) is (x + 5y) mod 16. -/
def ramp : Framebuffer := framebufferOf fun x y => BitVec.ofNat 4 (x + 5 * y)

/-- A decoder that shows the ramp. -/
def drawn : State := { State.reset with fb := ramp }

/-- A decoder that has opened some bytes. -/
def opened (bytes : List Byte) (running : Bool) (calls : List HostCall) : State :=
  { State.reset with
    input := Memory.ofBytes bytes, inputLen := bytes.length, isOpen := true, running := running, calls := calls }

/-- A decoder whose `process` is about to run one packet. -/
def running (pkt : List Byte) : State := opened pkt true []

/-- A single-colour frame. -/
def plainFrame (ms : Millis) (c : Color) : Frame := { startMs := ms, image := Grid.ofFn 288 192 fun _ _ => c }

/-- A processed decoder with two frames, skip bits and a pending call. -/
def processedWith (call : HostCall) : State :=
  { State.reset with
    isOpen := true, processed := true, inputLen := 576, position := 24, calls := [call]
    frames := [plainFrame 40 1, plainFrame 80 2], skip := [false, true], lastUpdateMs := 13 }

/-- P3's quiet window: five frames with skip bits 0, 1, 1, 1, 1. -/
def quiet (call : HostCall) : State :=
  { processedWith call with
    frames := List.replicate 5 (plainFrame 40 1), skip := [false, true, true, true, true] }

/-- Parameters that refuse what they can (R8). -/
def strict : Config :=
  { Config.default with offsetPolicy := .refuse, scrollCmd3Policy := .refuse, tileOobPolicy := .refuse }

/-- The tile rows of V4, 0x25 twelve times. -/
def rows25 : Vector (BitVec 6) 12 := Vector.replicate 12 0x25

/-- Eight times the colour 0xF00. -/
def reds : Vector Rgb12 8 := Vector.replicate 8 ⟨15, 0, 0⟩

/-- Eight times the colour 0x000, which a palette holds after reset (R24). -/
def blacks : Vector Rgb12 8 := Vector.replicate 8 ⟨0, 0, 0⟩

/-! ### Well-formedness: one ill-formed term for each check (R84) -/

theorem test_wf_tile_row_18_refused : (Instr.tileNormal 0 1 18 0 rows25).wellFormed = false := by decide

theorem test_wf_tile_column_50_refused : (Instr.tileXor 0 1 0 50 rows25).wellFormed = false := by decide

theorem test_wf_tile_corner_accepted : (Instr.tileNormal 0 1 17 49 rows25).wellFormed = true := by decide

theorem test_wf_h_three_refused : (Instr.scrollPreset 0 .three 0 .stay 0).wellFormed = false := by decide

theorem test_wf_v_three_refused : (Instr.scrollCopy .stay 0 .three 0).wellFormed = false := by decide

theorem test_wf_h_offset_6_refused : (Instr.scrollCopy .stay 6 .stay 0).wellFormed = false := by decide

theorem test_wf_v_offset_12_refused : (Instr.scrollPreset 0 .stay 0 .stay 12).wellFormed = false := by decide

theorem test_wf_offsets_5_11_accepted : (Instr.scrollCopy .right 5 .up 11).wellFormed = true := by decide

/-! ### Decoding: the words are the vectors' bytes -/

/-- S2. -/
theorem test_decode_memory_preset :
    decode [0x09, 0x01, 0, 0, 0x05, 0x00, 0, 0, 0, 0, 0, 0, 0, 0, 0, 0, 0, 0, 0, 0, 0, 0, 0, 0] =
      .instr (.memoryPreset 5 0) := by decide

/-- V2: F5 F0 is colour 5, repeat 0. -/
theorem test_decode_preset_masks :
    decode [0x09, 0x01, 0, 0, 0xF5, 0xF0, 0, 0, 0, 0, 0, 0, 0, 0, 0, 0, 0, 0, 0, 0, 0, 0, 0, 0] =
      .instr (.memoryPreset 5 0) := by decide

/-- P1, packet 3. -/
theorem test_decode_border_preset :
    decode [0x09, 0x02, 0, 0, 0x04, 0, 0, 0, 0, 0, 0, 0, 0, 0, 0, 0, 0, 0, 0, 0, 0, 0, 0, 0] =
      .instr (.borderPreset 4) := by decide

/-- S5. -/
theorem test_decode_tile_normal :
    decode [0x09, 0x06, 0, 0, 0x00, 0x01, 0x00, 0x00, 0xFF, 0xFF, 0xFF, 0xFF, 0xFF, 0xFF, 0xFF, 0xFF, 0xFF, 0xFF,
        0xFF, 0xFF, 0, 0, 0, 0] =
      .instr (.tileNormal 0 1 0 0 (Vector.replicate 12 0x3F)) := by decide

/-- V4: row byte 0x32 is row 18, column byte 0x71 is column 49; the pixel rows stay in order. -/
theorem test_decode_tile_xor :
    decode [0x09, 0x26, 0, 0, 0x07, 0x0C, 0x32, 0x71, 0, 1, 2, 3, 4, 5, 6, 7, 8, 9, 10, 11, 0, 0, 0, 0] =
      .instr (.tileXor 7 12 18 49 #v[0, 1, 2, 3, 4, 5, 6, 7, 8, 9, 10, 11]) := by decide

/-- V5: data[1] = 0xD2 is right, offset 2; data[2] = 0x1B is down, offset 11. -/
theorem test_decode_scroll_preset :
    decode [0x09, 0x14, 0, 0, 0x01, 0xD2, 0x1B, 0, 0, 0, 0, 0, 0, 0, 0, 0, 0, 0, 0, 0, 0, 0, 0, 0] =
      .instr (.scrollPreset 1 .right 2 .down 11) := by decide

/-- V5: data[1] = 0x36 is direction 3, offset 6; data[2] = 0x2F is up, offset 15. -/
theorem test_decode_scroll_copy :
    decode [0x09, 0x18, 0, 0, 0, 0x36, 0x2F, 0, 0, 0, 0, 0, 0, 0, 0, 0, 0, 0, 0, 0, 0, 0, 0, 0] =
      .instr (.scrollCopy .three 6 .up 15) := by decide

/-- V1. -/
theorem test_decode_define_transparent :
    decode [0x09, 0x1C, 0, 0, 0, 0, 0, 0, 0, 0, 0, 0, 0, 0, 0, 0, 0, 0, 0, 0, 0, 0, 0, 0] =
      .instr .defineTransparent := by decide

/-- S4. -/
theorem test_decode_load_colors_low :
    decode [0x09, 0x1E, 0, 0, 0x00, 0x00, 0x3C, 0x00, 0x03, 0x30, 0x00, 0x0F, 0x3F, 0x3F, 0x22, 0x08, 0x3F, 0x30,
        0x03, 0x3F, 0, 0, 0, 0] =
      .instr (.loadColorsLow #v[⟨0, 0, 0⟩, ⟨15, 0, 0⟩, ⟨0, 15, 0⟩, ⟨0, 0, 15⟩, ⟨15, 15, 15⟩, ⟨8, 8, 8⟩, ⟨15, 15, 0⟩,
        ⟨0, 15, 15⟩]) := by decide

/-- V7: EA D5 is A, 9, 5, bits 7:6 ignored. -/
theorem test_decode_load_colors_high :
    decode [0x09, 0x1F, 0, 0, 0xEA, 0xD5, 0x2A, 0x15, 0, 0, 0, 0, 0, 0, 0, 0, 0, 0, 0, 0, 0, 0, 0, 0] =
      .instr (.loadColorsHigh #v[⟨10, 9, 5⟩, ⟨10, 9, 5⟩, ⟨0, 0, 0⟩, ⟨0, 0, 0⟩, ⟨0, 0, 0⟩, ⟨0, 0, 0⟩, ⟨0, 0, 0⟩,
        ⟨0, 0, 0⟩]) := by decide

/-- V1 and R87: what is no instruction, and what is no packet. -/
theorem test_decode_others :
    decode (packetOf 0x08 0x01 (List.replicate 16 0)) = .notCdg ∧ decode nopPacket = .notCdg ∧
      decode (reservedPacket 0x03) = .reserved 3 ∧ decode (reservedPacket 0x3F) = .reserved 63 ∧
      decode [0x09, 0x01] = .notAPacket := by decide

/-- The opcode table's row 0x0926, as 16 bits with `pkt[0]` high. -/
theorem test_decode_table_word : decodeTableWord 16 0x0926 = some (.tileXor 0 0 0 0 (Vector.replicate 12 0)) := by
  decide

theorem test_table_word_not_cdg : decodeTableWord 16 0x0826 = none := by decide

/-! ### The instructions, one step each -/

/-- V2, first row, and R131's extent: the fill covers the corner of the border. -/
theorem test_memory_preset_fills :
    after (fun t => (pixelAt t.fb 299 215, t.needsUpdate)) (exec (.memoryPreset 5 7) drawn) = some (5, true) := by
  decide

/-- V2: 0A 0F after a Memory Preset does nothing. -/
theorem test_memory_preset_suppressed :
    after (fun t => (pixelAt t.fb 7 0, t.needsUpdate)) (exec (.memoryPreset 10 15) (drawn.setLastMp true)) =
      some (7, false) := by
  decide

/-- R131's example: (6, 12) keeps its value, its neighbours left and above change. -/
theorem test_border_preset :
    after (fun t => [pixelAt t.fb 6 12, pixelAt t.fb 5 12, pixelAt t.fb 6 11, pixelAt t.fb 293 203, pixelAt t.fb 294 203,
      pixelAt t.fb 293 204]) (exec (.borderPreset 1) drawn) = some [2, 1, 1, 12, 1, 1] := by
  decide

/-- V4: byte 0x25 selects c1, c0, c0, c1, c0, c1. -/
theorem test_tile_normal :
    after (fun t => (List.range 6).map fun j => pixelAt t.fb (294 + j) 215)
      (exec (.tileNormal 2 3 17 49 rows25) drawn) = some [3, 2, 2, 3, 2, 3] := by
  decide

/-- R145: the pixels just outside the tile at (1, 1) keep their values. -/
theorem test_tile_normal_edges :
    after (fun t => [pixelAt t.fb 5 12, pixelAt t.fb 12 12, pixelAt t.fb 6 11, pixelAt t.fb 6 24])
      (exec (.tileNormal 9 9 1 1 rows25) drawn) = some [1, 8, 13, 14] := by
  decide

/-- V4: 0x7 with the chosen colour 0xC gives 0xB, with 0 it stays. -/
theorem test_tile_xor :
    after (fun t => (pixelAt t.fb 0 0, pixelAt t.fb 1 0))
      (exec (.tileXor 0 12 0 0 rows25) { State.reset with fb := uniformFramebuffer 7 }) = some (11, 7) := by
  decide

/-- V4: row 18 changes no pixel and marks the update. -/
theorem test_tile_out_of_range :
    after (fun t => (pixelAt t.fb 0 215, t.needsUpdate)) (exec (.tileXor 1 1 18 0 rows25) drawn) = some (3, true) := by
  decide

/-- V6: SCROLL_PRESET color=4 h=2 v=1 is 4 if x ≥ 294 or y ≤ 11, else F[x + 6, y − 12]. -/
theorem test_scroll_preset :
    after (fun t => [pixelAt t.fb 294 12, pixelAt t.fb 0 11, pixelAt t.fb 293 12, pixelAt t.fb 0 13])
      (exec (.scrollPreset 4 .left 0 .down 0) drawn) = some [4, 4, 11, 11] := by
  decide

/-- V5 and V6: direction 3 moves nothing, the offsets 6 and 15 are stored as 5 and 11. -/
theorem test_scroll_preset_reserved_fields :
    after (fun t => (pixelAt t.fb 9 0, t.hoff, t.voff, t.needsUpdate))
      (exec (.scrollPreset 4 .three 6 .three 15) drawn) = some (9, 5, 11, true) := by
  decide

/-- V6: SCROLL_COPY h=1 v=2 is F[(x − 6) mod 300, (y + 12) mod 216]. -/
theorem test_scroll_copy :
    after (fun t => [pixelAt t.fb 0 0, pixelAt t.fb 6 0, pixelAt t.fb 0 204])
      (exec (.scrollCopy .right 3 .up 0) drawn) = some [2, 12, 6] := by
  decide

/-- S6: HOFF = 3. -/
theorem test_scroll_copy_offsets :
    after (fun t => (t.hoff, t.voff)) (exec (.scrollCopy .right 3 .stay 0) drawn) = some (3, 0) := by
  decide

/-- R196: TRANSPARENT_SEEN only. -/
theorem test_define_transparent :
    after (fun t => (t.transparentSeen, t.needsUpdate)) (exec .defineTransparent drawn) = some (true, false) := by
  decide

/-- R192's example: 3C 00 loads 0xFF0000, entry 8 stays. -/
theorem test_load_colors_low :
    after (fun t => (palEntry t.pal 0, palEntry t.pal 7, palEntry t.pal 8, t.needsUpdate))
      (exec (.loadColorsLow reds) drawn) = some (0xFF0000, 0xFF0000, 0, true) := by
  decide

/-- V7: loading what the entries hold marks no update. -/
theorem test_load_colors_low_same :
    after (fun t => t.needsUpdate) (exec (.loadColorsLow blacks) drawn) = some false := by
  decide

/-- V7: colour k goes to entry 8 + k, A, 9, 5 to 0xAA9955. -/
theorem test_load_colors_high :
    after (fun t => (palEntry t.pal 7, palEntry t.pal 15))
      (exec (.loadColorsHigh (Vector.replicate 8 ⟨10, 9, 5⟩)) drawn) = some (0, 0xAA9955) := by
  decide

/-! ### Packet steps, the push and the host's operations -/

/-- P4, packets 0 to 5: the run survives a NOP and not a reserved code. -/
theorem test_preset_run :
    afterPackets (fun t => (pixelAt t.fb 0 0, t.lastUpdateMs, t.lastMp))
      [encode (.memoryPreset 1 0), encode (.memoryPreset 2 1), nopPacket, encode (.memoryPreset 3 2),
        reservedPacket 3, encode (.memoryPreset 4 3)] State.reset = some (4, 16, true) := by
  decide

/-- V8: the twelfth packet pushes a frame at 40 ms, with the skip bit 1 where nothing was drawn. -/
theorem test_twelfth_packet_pushes :
    after (fun t => (t.position, t.frames.map Frame.startMs, t.skip))
      (packetStep nopPacket { State.reset with position := 11 }) = some (12, [40], [true]) := by
  decide

/-- R210, R211: the window's corner pixel with offsets 5 and 11, through the palette. -/
theorem test_push_samples_window :
    after (fun t => (t.frames.map fun f => (Grid.get f.image 0 0, Grid.get f.image 287 191), t.needsUpdate))
      (framePush { drawn with hoff := 5, voff := 11, pal := paletteOf (fun i => BitVec.ofNat 24 i), needsUpdate := true }) =
        some ([(some 14, some 8)], false) := by
  decide

/-- V9: the update of packet 4 is at 13 ms, that of packet 299 at 996 ms. -/
theorem test_update_times : (streamMs 4, streamMs 299) = (13, 996) := by decide

/-- V8: 25 bytes leave TRUNCATED = 1 and answer true. -/
theorem test_truncated_tail :
    after (fun t => (t.truncated, t.processed, t.input, t.replies))
      (step { opened (List.replicate 25 0) true [] with position := 1 }) =
        some (true, true, [], [.bool true]) := by
  decide

/-- S1: `open([])` fails, and a tempo set before `open` is lost (V12). -/
theorem test_open_empty :
    after (fun t => (t.isOpen, t.tempo, t.replies)) (step ((State.reset.setTempo 150).setCalls [.openStream []])) =
      some (false, 100, [.error .emptyInput]) := by
  decide

/-- R261: NotOpen is code 5, and S1: `process` after a failed `open` answers it. -/
theorem test_process_not_open :
    after (fun t => t.replies.map HostReply.errorCode) (step (State.reset.setCalls [.process])) = some [5] := by
  decide

/-- V10: the query indexes of its table. -/
theorem test_query_index :
    [queryIndex State.reset 41, queryIndex (State.reset.setTempo 50) 80, queryIndex (State.reset.setTempo 0) 9,
      queryIndex (State.reset.setTempo (-100)) 40, queryIndex (State.reset.setTempo 200) 40] = [2, 1, 0, -1, 2] := by
  decide

/-- V10: `frame_at(41)` of two frames is the last, and a negative index gives the first. -/
theorem test_frame_at :
    (frameIndex (processedWith .tempo) 41, frameIndex ((processedWith .tempo).setTempo (-100)) 40) = (1, 0) := by
  decide

/-- P3: true at 41, 80 and 120 ms, false at 0, 40 and 160. -/
theorem test_can_skip :
    [0, 40, 41, 80, 120, 160].map (fun ms => canSkipAnswer ms (quiet .tempo)) =
      [false, false, true, true, true, false] := by
  decide

/-- V11, the rows 7 200 and 23 in the three modes. -/
theorem test_duration :
    [DurationMode.rate, .doc, .reference].map (fun m =>
        [7200, 23].map fun n =>
          durationMs { State.reset with cfg := { Config.default with durationMode := m }, inputLen := n }) =
      [[1000, 0], [12000, 0], [288000, 920]] := by
  decide

/-- The packet placed by `withFetchWord` is the one the next step runs, right after reset. -/
theorem test_with_fetch_word :
    after (fun t => (t.position, t.transparentSeen)) (step (State.reset.withFetchWord 16 0x091C)) = some (1, true) := by
  decide

/-! ### Witnesses: an input that meets the hypotheses of each obligation -/

theorem witness_CdgPacketIffCommandField :
    (encode .defineTransparent).length = 24 ∧ (packetOf 0x0A 1 (List.replicate 16 0)).length = 24 ∧
      (packetOf 0x0A 1 (List.replicate 16 0)).getD 0 0 &&& 0x3F#8 ≠ 0x09#8 := by
  decide

theorem witness_InstructionFieldSelects :
    [0x01, 0x02, 0x06, 0x14, 0x18, 0x1C, 0x1E, 0x1F, 0x26, 0x00, 0x3F].all (fun c =>
      decide ((reservedPacket c).length = 24) && decide ((reservedPacket c).getD 0 0 &&& 0x3F#8 = 0x09#8) &&
        decide ((reservedPacket c).getD 1 0 &&& 0x3F#8 = c.setWidth 8)) = true ∧
      nopPacket.length = 24 ∧ nopPacket.getD 0 0 &&& 0x3F#8 ≠ 0x09#8 := by
  decide

/-- A packet and the same one with every parity bit turned over. -/
theorem witness_ParityBitsIgnored :
    ∃ p q : List Byte, p ≠ q ∧ p.length = 24 ∧ q.length = 24 ∧
      ∀ k, k < 2 ∨ (4 ≤ k ∧ k < 20) → p.getD k 0 &&& 0x3F#8 = q.getD k 0 &&& 0x3F#8 := by
  refine ⟨encode (.borderPreset 6),
    [0xC9, 0xC2, 7, 7] ++ (0xC6 :: List.replicate 15 0xC0) ++ [9, 9, 9, 9], by decide, by decide, by decide,
    fun k hk => ?_⟩
  have h : ∀ k < 20, k < 2 ∨ 4 ≤ k → (encode (.borderPreset 6)).getD k 0 &&& 0x3F#8 =
      ([0xC9, 0xC2, 7, 7] ++ (0xC6 :: List.replicate 15 0xC0) ++ [9, 9, 9, 9] : List Byte).getD k 0 &&& 0x3F#8 := by
    decide
  exact h k (by omega) (by omega)

theorem witness_PresetOperandPlaces :
    decode (encode (.memoryPreset 15 15)) = .instr (.memoryPreset 15 15) ∧
      decode (encode (.borderPreset 15)) = .instr (.borderPreset 15) := by
  decide

theorem witness_TileOperandPlaces :
    decode (encode (.tileNormal 15 0 31 63 rows25)) = .instr (.tileNormal 15 0 31 63 rows25) ∧
      decode (encode (.tileXor 0 15 0 0 rows25)) = .instr (.tileXor 0 15 0 0 rows25) := by
  decide

theorem witness_ScrollOperandPlaces :
    decode (encode (.scrollPreset 15 .three 7 .three 15)) = .instr (.scrollPreset 15 .three 7 .three 15) ∧
      decode (encode (.scrollCopy .left 0 .up 0)) = .instr (.scrollCopy .left 0 .up 0) := by
  decide

theorem witness_ColorOperandPlaces :
    decode (encode (.loadColorsLow reds)) = .instr (.loadColorsLow reds) ∧
      decode (encode (.loadColorsHigh reds)) = .instr (.loadColorsHigh reds) := by
  decide

theorem witness_MemoryPresetFillsOrIsSuppressed :
    ((drawn.setLastMp true).lastMp = true ∧ (1 : BitVec 4) ≠ 0) ∧
      ¬((drawn.setLastMp true).lastMp = true ∧ (0 : BitVec 4) ≠ 0) ∧ ¬(drawn.lastMp = true ∧ (1 : BitVec 4) ≠ 0) := by
  decide

theorem witness_ConsecutivePresetsFillOnce :
    (drawn.lastMp = false ∨ (1 : BitVec 4) = 0) ∧ ((drawn.setLastMp true).lastMp = false ∨ (0 : BitVec 4) = 0) ∧
      (1 : BitVec 4) ≠ 0 ∧ drawn.hoff.toNat ≤ 5 ∧ drawn.voff.toNat ≤ 11 := by
  decide

theorem witness_TileNormalDrawsChosenColors : (17 : BitVec 5).toNat < 18 ∧ (49 : BitVec 6).toNat < 50 := by decide

theorem witness_TileXorCombinesChosenColors : (0 : BitVec 5).toNat < 18 ∧ (0 : BitVec 6).toNat < 50 := by decide

theorem witness_TileOffFramebuffer :
    (18 ≤ (18 : BitVec 5).toNat ∨ 50 ≤ (0 : BitVec 6).toNat) ∧ (18 ≤ (17 : BitVec 5).toNat ∨ 50 ≤ (50 : BitVec 6).toNat) ∧
      drawn.cfg.tileOobPolicy = .skip ∧ strict.tileOobPolicy = .refuse := by
  decide

theorem witness_TileFootprint :
    (∃ t, exec (.tileNormal 1 1 17 49 rows25) drawn = .next t ∧ pixelAt t.fb 299 215 ≠ pixelAt drawn.fb 299 215) ∧
      (∃ t, exec (.tileXor 1 1 0 0 rows25) drawn = .next t ∧ pixelAt t.fb 0 0 ≠ pixelAt drawn.fb 0 0) ∧
      (17 : BitVec 5).toNat ≤ 17 ∧ (49 : BitVec 6).toNat ≤ 49 :=
  ⟨⟨_, rfl, by decide⟩, ⟨_, rfl, by decide⟩, by decide, by decide⟩

theorem witness_TileXorTwiceRestores :
    drawn.cfg.tileOobPolicy = .skip ∧ (17 : BitVec 5).toNat < 18 ∧ (49 : BitVec 6).toNat < 50 := by
  decide

/-- One input under the default parameters with every reserved field value, one under `refuse` with none. -/
theorem witness_ScrollPresetShiftsAndFills :
    drawn.cfg.scrollCmd3Policy = .noShift ∧ drawn.cfg.offsetPolicy = .clamp ∧
      strict.scrollCmd3Policy ≠ .noShift ∧ (HCmd.right ≠ .three ∧ VCmd.up ≠ .three) ∧
      strict.offsetPolicy ≠ .clamp ∧ ((5 : BitVec 3).toNat ≤ 5 ∧ (11 : BitVec 4).toNat ≤ 11) := by
  decide

theorem witness_ScrollCopyRotates :
    (drawn.cfg.scrollCmd3Policy = .noShift ∨ (HCmd.three ≠ .three ∧ VCmd.up ≠ .three)) ∧
      (drawn.cfg.offsetPolicy = .clamp ∨ ((7 : BitVec 3).toNat ≤ 5 ∧ (15 : BitVec 4).toNat ≤ 11)) := by
  decide

theorem witness_ScrollRefusedByPolicy :
    strict.scrollCmd3Policy = .refuse ∧ (HCmd.three = .three ∨ VCmd.stay = .three) ∧
      (HCmd.stay = .three ∨ VCmd.three = .three) ∧ strict.offsetPolicy = .refuse ∧
      (5 < (6 : BitVec 3).toNat ∨ 11 < (0 : BitVec 4).toNat) ∧ (5 < (5 : BitVec 3).toNat ∨ 11 < (12 : BitVec 4).toNat) ∧
      (strict.scrollCmd3Policy = .noShift ∨ (HCmd.stay ≠ .three ∧ VCmd.stay ≠ .three)) := by
  decide

theorem witness_ScrollRoundTripCommuteAndRange :
    drawn.cfg.offsetPolicy = .clamp ∧
      ((HCmd.right, HCmd.left) = (.right, .left) ∧ VCmd.stay = .stay) ∧
      ((VCmd.down, VCmd.up) = (.down, .up) ∧ HCmd.stay = .stay) ∧
      ∃ t, exec (.scrollPreset 1 .right 7 .down 15) drawn = .next t :=
  ⟨rfl, ⟨rfl, rfl⟩, ⟨rfl, rfl⟩, _, rfl⟩

/-- Both clauses of R192 and R193: colours the entries hold, and colours they do not hold. -/
theorem witness_LoadColorsLowWritesLowHalf :
    (∀ k : Fin 8, palEntry drawn.pal (BitVec.ofNat 4 k) = expandColor blacks[k]) ∧
      ∃ k : Fin 8, palEntry drawn.pal (BitVec.ofNat 4 k) ≠ expandColor reds[k] := by
  decide

theorem witness_LoadColorsHighWritesHighHalf :
    (∀ k : Fin 8, palEntry drawn.pal (BitVec.ofNat 4 (8 + k)) = expandColor blacks[k]) ∧
      ∃ k : Fin 8, palEntry drawn.pal (BitVec.ofNat 4 (8 + k)) ≠ expandColor reds[k] := by
  decide

theorem witness_LoadColorsIdempotent :
    (∀ k : Fin 8, palEntry drawn.pal (BitVec.ofNat 4 k) = expandColor blacks[k]) ∧
      (∀ k : Fin 8, palEntry drawn.pal (BitVec.ofNat 4 (8 + k)) = expandColor blacks[k]) ∧
      drawn.markUpdate.needsUpdate = true := by
  decide

/-- A packet whose instruction takes a next state, and one that a `refuse` setting turns away. -/
theorem witness_StepRunsDecodedInstruction :
    (∃ (s : State) (pkt : List Byte), s.refused = false ∧ s.running = true ∧ s.position < s.inputLen / 24 ∧
      s.input.readBytes (24 * s.position) 24 = some pkt ∧ decode pkt = .instr (.scrollCopy .right 3 .up 11)) ∧
    ∃ (s : State) (pkt : List Byte), s.refused = false ∧ s.running = true ∧ s.position < s.inputLen / 24 ∧
      s.input.readBytes (24 * s.position) 24 = some pkt ∧ decode pkt = .instr (.scrollCopy .right 6 .up 11) ∧
      exec (.scrollCopy .right 6 .up 11) s = .refused .offsetOutOfRange :=
  ⟨⟨running (encode (.scrollCopy .right 3 .up 11)), encode (.scrollCopy .right 3 .up 11), by decide⟩,
    { running (encode (.scrollCopy .right 6 .up 11)) with cfg := strict }, encode (.scrollCopy .right 6 .up 11),
    by decide, by decide, by decide, by decide, by decide, rfl⟩

theorem witness_ReservedCodeClearsPresetFlag :
    ∃ (s : State) (pkt : List Byte), s.refused = false ∧ s.running = true ∧ s.position < s.inputLen / 24 ∧
      s.input.readBytes (24 * s.position) 24 = some pkt ∧ decode pkt = .reserved 63 :=
  ⟨running (reservedPacket 63), reservedPacket 63, by decide⟩

theorem witness_OtherSubcodePacketIsSkipped :
    ∃ (s : State) (pkt : List Byte), s.refused = false ∧ s.running = true ∧ s.position < s.inputLen / 24 ∧
      s.input.readBytes (24 * s.position) 24 = some pkt ∧ pkt.getD 0 0 &&& 0x3F#8 ≠ 0x09#8 :=
  ⟨running nopPacket, nopPacket, by decide⟩

/-- The second packet of two, with a tail behind it. -/
theorem witness_PacketsAreFetchedInOrder :
    ∃ (bytes : List Byte) (s : State), s.input = Memory.ofBytes bytes ∧ s.inputLen = bytes.length ∧
      s.position < s.inputLen / 24 ∧ s.refused = false ∧ s.running = true ∧ s.position = 1 ∧ bytes.length = 49 :=
  ⟨nopPacket ++ encode .defineTransparent ++ [9],
    { opened (nopPacket ++ encode .defineTransparent ++ [9]) true [] with position := 1 }, rfl, rfl, by decide⟩

theorem witness_EveryPacketCompletes :
    nopPacket.length = 24 ∧ (5 : BitVec 3).toNat ≤ 5 ∧ (11 : BitVec 4).toNat ≤ 11 ∧ drawn.cfg.neverRefuses := by
  decide

/-- A CD+G packet and another packet, each with a step that completes unrefused. -/
theorem witness_PresetFlagFollowsLastCommand :
    (∃ t, packetStep (encode (.memoryPreset 1 1)) drawn = .next t ∧ t.refused = false) ∧
      ∃ t, packetStep nopPacket (drawn.setLastMp true) = .next t ∧ t.refused = false :=
  ⟨⟨_, rfl, rfl⟩, ⟨_, rfl, rfl⟩⟩

theorem witness_OnlyCdgPacketsChangeState :
    ∃ t, packetStep (encode (.scrollPreset 1 .stay 5 .stay 11)) drawn = .next t ∧
      (t.hoff ≠ drawn.hoff ∧ t.voff ≠ drawn.voff ∧ t.needsUpdate = true ∧ drawn.needsUpdate = false) :=
  ⟨_, rfl, by decide⟩

theorem witness_FramePushSnapshotsViewport :
    ({ drawn with hoff := 5, voff := 11 } : State).hoff.toNat ≤ 5 ∧
      ({ drawn with hoff := 5, voff := 11 } : State).voff.toNat ≤ 11 := by
  decide

/-- The corner sample, in the border on both axes, and one in the safe area. -/
theorem witness_SamplesLieInside :
    (5 : BitVec 3).toNat ≤ 5 ∧ (11 : BitVec 4).toNat ≤ 11 ∧ 287 < 288 ∧ 191 < 192 ∧
      (288 - 5 ≤ 287 ∨ 192 - 11 ≤ 191) ∧ ¬(288 - 5 ≤ 282 ∨ 192 - 11 ≤ 180) := by
  decide

/-- Both clauses: between pushes, and at a push. -/
theorem witness_UpdateFlagCollects :
    (∃ t, packetStep (encode (.borderPreset 1)) drawn = .next t ∧ t.refused = false ∧ (drawn.position + 1) % 12 ≠ 0) ∧
      ∃ (s t : State), packetStep (encode (.borderPreset 1)) s = .next t ∧ t.refused = false ∧
        (s.position + 1) % 12 = 0 :=
  ⟨⟨_, rfl, rfl, by decide⟩, ⟨{ drawn with position := 11 }, _, rfl, rfl, by decide⟩⟩

/-- An opened decoder meets the invariant, whether its `process` runs or not. -/
theorem opened_inv (bytes : List Byte) (r : Bool) (calls : List HostCall) (h : bytes.length / 24 ≤ 1288490188) :
    (opened bytes r calls).Inv := by
  refine ⟨Nat.le_refl _, Nat.zero_le _, Nat.zero_le _, ?_, rfl, by simp [opened, State.reset], ?_, Nat.zero_le _, h, fun _ => rfl,
    Nat.zero_le _, Memory.wf_ofBytes bytes, ?_, ?_, ?_, ?_, ?_, ?_⟩
  · exact fun i => ⟨⟨0, 0, 0⟩, by simp [opened, State.reset, palEntry, expandColor, expandChannel]⟩
  · intro i f hf; simp [opened, State.reset] at hf
  · intro a
    show ((Memory.ofBytes bytes).read a).isSome = decide (a < bytes.length)
    rw [Memory.read_ofBytes]
    by_cases ha : a < bytes.length <;> simp [ha]
  · intro e; cases e
  · exact fun _ => ⟨rfl, rfl⟩
  · exact fun _ _ _ => rfl
  · intro e; cases e
  · intro e; cases e

/-- Twelve packets that are not CD+G. -/
def twelve : List Byte := List.replicate 288 0

/-- The run of the twelve packets, its frame pushed at the end. -/
def quietRun (k : Nat) : State :=
  if k < 12 then { opened twelve true [] with position := k }
  else ({ opened twelve true [] with position := 12 } : State).pushFrame

theorem quietRun_step (k : Nat) (h : k < 12) : step (quietRun k) = .next (quietRun (k + 1)) := by
  have hp : ∀ k < 12, ({ opened twelve true [] with position := k } : State).fetch = some nopPacket := by decide
  have hs : quietRun k = { opened twelve true [] with position := k } := by simp [quietRun, h]
  have hlt : (quietRun k).position < (quietRun k).inputLen / 24 := by
    rw [hs]; show k < twelve.length / 24; simpa [twelve] using h
  rw [step_running (by rw [hs]; rfl) (by rw [hs]; rfl), processStep_packet hlt (by rw [hs]; exact hp k h),
    packetStep_notCdg (show decode nopPacket = .notCdg by decide), hs]
  by_cases hk : k = 11
  · subst hk; rfl
  · rw [finishPacket_no_push (by show (k + 1) % 12 ≠ 0; omega)]
    simp [quietRun, show k + 1 < 12 by omega, State.advance]

theorem witness_SkipBitSpeaksOfTwelvePackets :
    (quietRun 0).Inv ∧ (quietRun 0).running = true ∧ (quietRun 0).position % 12 = 0 ∧
      (quietRun 0).position + 12 ≤ (quietRun 0).inputLen / 24 ∧ (∀ k, k ≤ 12 → (quietRun k).refused = false) ∧
      ∀ k, k < 12 → step (quietRun k) = .next (quietRun (k + 1)) := by
  refine ⟨opened_inv twelve true [] (by decide), rfl, rfl, by decide, fun k _ => ?_, quietRun_step⟩
  unfold quietRun
  split <;> rfl

theorem witness_PushedFramesNeverChange :
    (∃ t, step (quietRun 11) = .next t) ∧ (quietRun 11).running = true ∧
      (∃ t, step (processedWith .tempo) = .next t) ∧
      ∀ bytes rest, (processedWith .tempo).calls ≠ .openStream bytes :: rest :=
  ⟨⟨_, quietRun_step 11 (by decide)⟩, rfl, ⟨_, rfl⟩, by simp [processedWith]⟩

theorem witness_MillisecondsFit : (1288490188 : Nat) ≤ 1288490188 := Nat.le_refl _

/-- A re-open of a processed decoder. -/
theorem witness_OpenResetsAndAccepts :
    (processedWith (.openStream [9])).refused = false ∧ (processedWith (.openStream [9])).running = false ∧
      (processedWith (.openStream [9])).calls = [.openStream [9]] ∧ ([9] : List Byte) ≠ [] ∧
      ([9] : List Byte).length / 24 ≤ (processedWith (.openStream [9])).cfg.maxPackets := by
  decide

theorem witness_OpenOfNothingFails :
    (processedWith (.openStream [])).refused = false ∧ (processedWith (.openStream [])).running = false ∧
      (processedWith (.openStream [])).calls = [.openStream []] := by
  decide

/-- Both clauses: a closed decoder and a processed one. -/
theorem witness_ProcessNotCallable :
    (State.reset.setCalls [.process]).refused = false ∧ (State.reset.setCalls [.process]).running = false ∧
      (State.reset.setCalls [.process]).calls = [.process] ∧ (State.reset.setCalls [.process]).isOpen = false ∧
      (processedWith .process).refused = false ∧ (processedWith .process).running = false ∧
      (processedWith .process).calls = [.process] ∧ (processedWith .process).isOpen = true ∧
      (processedWith .process).processed = true := by
  decide

theorem witness_QueriesWriteNothing :
    (processedWith .duration).refused = false ∧ (processedWith .duration).running = false ∧
      (processedWith .duration).calls = [.duration] ∧ (∀ bytes, HostCall.duration ≠ .openStream bytes) ∧
      HostCall.duration ≠ .process ∧ ∀ p, HostCall.duration ≠ .setTempo p := by
  refine ⟨rfl, rfl, rfl, ?_, ?_, ?_⟩ <;> simp

theorem witness_QueriesBeforeProcessFail :
    (opened [9] false [.frameAt 0]).refused = false ∧ (opened [9] false [.frameAt 0]).running = false ∧
      (opened [9] false [.frameAt 0]).processed = false ∧ (opened [9] false [.frameAt 0]).calls = [.frameAt 0] := by
  decide

/-- Each clause: no frame; a negative index; an index at the end; an index inside. -/
theorem witness_FrameAtClamps :
    (processedWith (.frameAt 80)).refused = false ∧ (processedWith (.frameAt 80)).running = false ∧
      (processedWith (.frameAt 80)).processed = true ∧ (processedWith (.frameAt 80)).calls = [.frameAt 80] ∧
      ({ processedWith (.frameAt 80) with frames := [] } : State).frames = [] ∧
      queryIndex ((processedWith (.frameAt 40)).setTempo (-100)) 40 < 0 ∧
      ((processedWith (.frameAt 80)).frames.length : Int) ≤ queryIndex (processedWith (.frameAt 80)) 80 ∧
      queryIndex (processedWith (.frameAt 40)) 40 = (1 : Nat) ∧
      (processedWith (.frameAt 40)).frames[1]? = some (plainFrame 80 2) :=
  ⟨rfl, rfl, rfl, rfl, rfl, by decide, by decide, by decide, rfl⟩

/-- Both clauses, and both answers of the second. -/
theorem witness_CanSkipIsThreeFrameWindow :
    (quiet (.canSkip 80)).refused = false ∧ (quiet (.canSkip 80)).running = false ∧
      (quiet (.canSkip 80)).calls = [.canSkip 80] ∧ (quiet (.canSkip 80)).processed = true ∧
      queryIndex (quiet (.canSkip 80)) 80 = ((1 : Nat) : Int) + 1 ∧ (quiet (.canSkip 80)).skip[1]? = some true ∧
      (quiet (.canSkip 80)).skip[2]? = some true ∧ (quiet (.canSkip 80)).skip[3]? = some true ∧
      (opened [9] false [.canSkip 80]).processed = false ∧ (opened [9] false [.canSkip 80]).refused = false ∧
      (opened [9] false [.canSkip 80]).running = false ∧ (opened [9] false [.canSkip 80]).calls = [.canSkip 80] := by
  decide

theorem witness_DurationAndLastUpdateAnswers :
    (processedWith .lastUpdateMs).refused = false ∧ (processedWith .lastUpdateMs).running = false ∧
      (processedWith .lastUpdateMs).processed = true ∧ (processedWith .lastUpdateMs).calls = [.lastUpdateMs] ∧
      (processedWith .duration).refused = false ∧ (processedWith .duration).running = false ∧
      (processedWith .duration).processed = true ∧ (processedWith .duration).calls = [.duration] := by
  decide

/-- A query on a processed decoder, and an `open` of nothing and one of a byte, each with a query behind it. -/
theorem witness_TempoQueryAnswers :
    (processedWith .tempo).refused = false ∧ (processedWith .tempo).running = false ∧
      (processedWith .tempo).calls = [.tempo] ∧
      [[], [9]].all (fun bytes =>
        let s := ((processedWith .process).setTempo 50).setCalls [.openStream bytes, .tempo]
        decide (s.refused = false) && decide (s.running = false) && decide (s.calls = [.openStream bytes, .tempo]) &&
          decide (bytes.length / 24 ≤ s.cfg.maxPackets)) = true := by
  decide

theorem witness_SetTempoAndIsOpenAnswer :
    (State.reset.setCalls [.setTempo (-1)]).refused = false ∧ (State.reset.setCalls [.setTempo (-1)]).running = false ∧
      (State.reset.setCalls [.setTempo (-1)]).calls = [.setTempo (-1)] ∧
      (processedWith .isOpen).refused = false ∧ (processedWith .isOpen).running = false ∧
      (processedWith .isOpen).calls = [.isOpen] := by
  decide

theorem witness_TempoDoesNotAffectDecoding : (running nopPacket).running = true := rfl

theorem witness_IdleBlockDoesNothing :
    State.reset.refused = false ∧ State.reset.running = false ∧ State.reset.calls = [] := by
  decide

/-- The four clauses: an `open` of one packet more than a lowered MAX_PACKETS, a packet that a `refuse` setting turns
away, a marked state, and the two steps that set the mark. -/
theorem witness_RefusalsAreMarked :
    (∃ s : State, s.refused = false ∧ s.running = false ∧ s.calls = [.openStream nopPacket] ∧
      s.cfg.maxPackets < nopPacket.length / 24 ∧ ∃ t, step s = .next t ∧ t.refused = true) ∧
    (∃ (s : State) (pkt : List Byte), s.refused = false ∧ s.running = true ∧ s.position < s.inputLen / 24 ∧
      s.fetch = some pkt ∧ decode pkt = .instr (.tileXor 1 1 18 0 rows25) ∧
      exec (.tileXor 1 1 18 0 rows25) s = .refused .tileOutOfRange ∧ ∃ t, step s = .next t ∧ t.refused = true) ∧
    State.reset.markRefused.refused = true :=
  ⟨⟨{ State.reset with cfg := { Config.default with maxPackets := 0 } }.setCalls [.openStream nopPacket],
      rfl, rfl, rfl, by decide, _, rfl, rfl⟩,
    ⟨{ running (encode (.tileXor 1 1 18 0 rows25)) with cfg := strict }, encode (.tileXor 1 1 18 0 rows25),
      rfl, rfl, by decide, by decide, by decide, rfl, _, rfl, rfl⟩,
    rfl⟩

theorem witness_StepKeepsInvariant : (quietRun 0).Inv ∧ step (quietRun 0) = .next (quietRun 1) :=
  ⟨opened_inv twelve true [] (by decide), quietRun_step 0 (by decide)⟩

theorem witness_InvariantStatesNeverFault : (running (encode (.tileXor 1 1 31 63 rows25))).Inv :=
  opened_inv _ _ _ (by decide)

/-- Twelve packets and a tail. -/
theorem witness_ProcessRunsToCompletion :
    (opened (twelve ++ [9]) false [.process]).Inv ∧ (opened (twelve ++ [9]) false [.process]).refused = false ∧
      (opened (twelve ++ [9]) false [.process]).cfg.neverRefuses ∧
      (opened (twelve ++ [9]) false [.process]).isOpen = true ∧
      (opened (twelve ++ [9]) false [.process]).processed = false ∧
      (opened (twelve ++ [9]) false [.process]).running = false ∧
      (opened (twelve ++ [9]) false [.process]).calls = [.process] :=
  ⟨opened_inv _ _ _ (by decide), rfl, by decide, rfl, rfl, rfl, rfl⟩

end Sys2Proof.Tests
end

namespace Sys2Proof.Machine

/-! SUPPORT. Facts about the decoder, the instructions, the packet step and the host calls, for the statements of
10_state.md: the state's registers, the refusal mark and the invariant. -/

/-! ### The code of a decoded instruction -/

theorem decode_eq_or (pkt : List Byte) :
    decode pkt = decodeCdg pkt ∨ decode pkt = .notCdg ∨ decode pkt = .notAPacket := by
  unfold decode
  split
  · split
    · exact .inl rfl
    · exact .inr (.inl rfl)
  · exact .inr (.inr rfl)

/-- The code of the instruction a packet decodes to stands in the packet's instruction field (R74, R78). -/
theorem insField_of_instr {pkt : List Byte} {i : Instr} (h : decode pkt = .instr i) : insField pkt = i.code := by
  rcases decode_eq_or pkt with e | e | e <;> rw [e] at h
  · unfold decodeCdg at h
    split at h <;> cases h <;> exact BitVec.eq_of_toNat_eq ‹_›
  · cases h
  · cases h

/-- The Memory Preset's code is not reserved (R78, R82). -/
theorem insField_of_reserved {pkt : List Byte} {c : BitVec 6} (h : decode pkt = .reserved c) : insField pkt ≠ 1 := by
  intro hins
  rcases decode_eq_or pkt with e | e | e <;> rw [e] at h
  · simp [decodeCdg, hins] at h
  · cases h
  · cases h

theorem isMemoryPreset_iff_code (i : Instr) : i.isMemoryPreset = true ↔ i.code = 1 := by
  cases i <;> simp [Instr.isMemoryPreset, Instr.code]

/-! ### Times -/

theorem streamMs_toNat_le (p : Nat) : (streamMs p).toNat ≤ p * 1000 / 300 := by
  rw [streamMs, BitVec.toNat_ofNat]; exact Nat.mod_le _ _

/-- R23: a 32-bit millisecond count holds the time of every packet up to the default MAX_PACKETS (D3). -/
theorem streamMs_toNat {p : Nat} (hp : p ≤ 1288490188) : (streamMs p).toNat = p * 1000 / 300 := by
  rw [streamMs, BitVec.toNat_ofNat]
  exact Nat.mod_eq_of_lt (by omega)

/-! ### What an instruction does to the palette and to the update time -/

/-- Load Colors writes expanded colours (R24, R192). -/
theorem loadPalette_expanded {s : State} (hs : s.PaletteExpanded) (base : Nat) (colors : Vector Rgb12 8) :
    (s.setPal (loadPalette base colors s.pal)).PaletteExpanded := by
  intro i
  rw [State.setPal_pal, palEntry_loadPalette]
  split
  · exact ⟨_, rfl⟩
  · exact hs i

theorem exec_paletteExpanded {i : Instr} {s u : State} (h : exec i s = .next u) (hs : s.PaletteExpanded) :
    u.PaletteExpanded := by
  rcases exec_cases i s with e | ⟨fb, e⟩ | ⟨fb, ho, vo, -, -, e⟩ | ⟨base, colors, -, -, e⟩ | e | ⟨r, e⟩ <;>
    rw [e] at h <;> cases h
  · exact hs
  · exact hs
  · exact hs
  · exact loadPalette_expanded hs base colors
  · exact hs

/-- An instruction leaves the update time, or sets it to the packet's start (R107). -/
theorem exec_lastUpdateMs {i : Instr} {s u : State} (h : exec i s = .next u) :
    u.lastUpdateMs = s.lastUpdateMs ∨ u.lastUpdateMs = streamMs s.position := by
  rcases exec_cases i s with e | ⟨fb, e⟩ | ⟨fb, ho, vo, -, -, e⟩ | ⟨base, colors, -, -, e⟩ | e | ⟨r, e⟩ <;>
    rw [e] at h <;> cases h
  · exact .inl rfl
  · exact .inr rfl
  · exact .inr rfl
  · exact .inr rfl
  · exact .inl rfl

/-! ### Steps and host calls, by what they can end in -/

/-- Everything a step that answers a next state can be: a packet step, the end of `process`, or a host call. -/
theorem step_next {s t : State} (h : step s = .next t) :
    s.refused = false ∧
      ((s.running = true ∧ s.position < s.inputLen / 24 ∧ ∃ pkt, s.fetch = some pkt ∧ packetStep pkt s = .next t) ∨
        (s.running = true ∧ s.inputLen / 24 ≤ s.position ∧ t = s.endProcess.reply (.bool true)) ∨
        (s.running = false ∧ serveCall s = .next t)) := by
  cases href : s.refused with
  | true => rw [step_refused href] at h; cases h
  | false =>
    refine ⟨rfl, ?_⟩
    cases hrun : s.running with
    | false => rw [step_serving href hrun] at h; exact .inr (.inr ⟨rfl, h⟩)
    | true =>
      rw [step_running href hrun] at h
      by_cases hpos : s.position < s.inputLen / 24
      · cases hf : s.fetch with
        | none => simp [processStep, hpos, hf] at h
        | some pkt => exact .inl ⟨rfl, hpos, pkt, rfl, by rwa [processStep_packet hpos hf] at h⟩
      · rw [processStep_end (by omega)] at h
        cases h
        exact .inr (.inl ⟨rfl, by omega, rfl⟩)

/-- What `open` ends in: the reset state with EmptyInput, the marked reset state, or the accepted bytes (R230). -/
theorem serveCall_open {s t : State} {bytes : List Byte} {rest : List HostCall}
    (hc : s.calls = .openStream bytes :: rest) (h : serveCall s = .next t) :
    t = (s.setCalls rest).resetState.reply (.error .emptyInput) ∨
    (s.cfg.maxPackets < bytes.length / 24 ∧ t = (s.setCalls rest).resetState.markRefused) ∨
    (bytes.length / 24 ≤ s.cfg.maxPackets ∧
      t = ({ (s.setCalls rest).resetState with
              input := Memory.ofBytes bytes, inputLen := bytes.length, isOpen := true } : State).reply (.bool true)) := by
  rcases eq_or_ne bytes [] with rfl | hne
  · rw [serveCall_returned hc (perform_open_empty _)] at h
    cases h; exact .inl rfl
  · by_cases hlen : s.cfg.maxPackets < bytes.length / 24
    · rw [serveCall_refused hc (perform_open_tooLong hlen)] at h
      cases h; exact .inr (.inl ⟨hlen, rfl⟩)
    · rw [serveCall_returned hc (perform_open_accepted hne (by simpa using hlen))] at h
      cases h; exact .inr (.inr ⟨by omega, rfl⟩)

/-- What a step that serves no `open` ends in: nothing done, a reply, a stored tempo, or a `process` begun. -/
theorem serveCall_not_open {s t : State} (hc : ∀ bytes rest, s.calls ≠ .openStream bytes :: rest)
    (h : serveCall s = .next t) :
    t = s ∨ (∃ rest r, t = (s.setCalls rest).reply r) ∨
    (∃ rest p, t = ((s.setCalls rest).setTempo p).reply .done) ∨
    ∃ rest, s.isOpen = true ∧ s.processed = false ∧ t = { s.setCalls rest with running := true } := by
  cases hcalls : s.calls with
  | nil => rw [serveCall_nil hcalls] at h; cases h; exact .inl rfl
  | cons c rest =>
    have hne : ∀ bytes, c ≠ .openStream bytes := fun bytes e => hc bytes rest (e ▸ hcalls)
    rcases perform_cases c (s.setCalls rest) hne with ⟨r, e⟩ | ⟨p, -, e⟩ | ⟨-, e, ho, hp⟩
    · rw [serveCall_returned hcalls e] at h; cases h; exact .inr (.inl ⟨rest, r, rfl⟩)
    · rw [serveCall_returned hcalls e] at h; cases h; exact .inr (.inr (.inl ⟨rest, p, rfl⟩))
    · rw [serveCall_begun hcalls e] at h; cases h; exact .inr (.inr (.inr ⟨rest, ho, hp, rfl⟩))

/-! ### The update flag and the timeline -/

/-- What the end of a packet step does to the update flag and the timeline (R213, R214). -/
theorem finishPacket_timeline {u t : State} (h : finishPacket u = .next t) :
    ((u.position + 1) % 12 ≠ 0 → t.needsUpdate = u.needsUpdate ∧ t.skip = u.skip ∧ t.frames = u.frames) ∧
    ((u.position + 1) % 12 = 0 →
      t.needsUpdate = false ∧ t.skip = u.skip ++ [!u.needsUpdate] ∧ ∃ f, t.frames = u.frames ++ [f]) := by
  rcases finishPacket_next h with ⟨hmod, -, rfl⟩ | ⟨hmod, rfl⟩
  · exact ⟨fun hn => absurd hmod hn, fun _ => ⟨rfl, rfl, _, rfl⟩⟩
  · exact ⟨fun _ => ⟨rfl, rfl, rfl⟩, fun hn => absurd hn hmod⟩

/-- A packet step sets the mark only, or ends a state with the old position and timeline, in which NEEDS_UPDATE has
collected the packet's mark (R29, R105). -/
theorem packetStep_collects {pkt : List Byte} {s t : State} (h : packetStep pkt s = .next t) :
    t = s.markRefused ∨
    ∃ u, finishPacket u = .next t ∧ u.position = s.position ∧ u.skip = s.skip ∧ u.frames = s.frames ∧
      u.needsUpdate = (s.needsUpdate || marksUpdate pkt s) := by
  rcases packetStep_next h with rfl | ⟨i, u, hd, he, hf⟩ | ⟨c, hd, hf⟩ | ⟨hd, hf⟩
  · exact .inl rfl
  · have hmark : u.needsUpdate = (s.needsUpdate || marksUpdate pkt s) := by
      rw [exec_needsUpdate he, marksUpdate, hd]
    have hu := exec_drawnFrom he
    exact .inr ⟨_, hf, by rw [hu]; rfl, by rw [hu]; rfl, by rw [hu]; rfl, hmark⟩
  · exact .inr ⟨_, hf, rfl, rfl, rfl, by simp [marksUpdate, hd]⟩
  · exact .inr ⟨_, hf, rfl, rfl, rfl, by simp [marksUpdate, hd]⟩

theorem packetStep_timeline_prefix {pkt : List Byte} {s t : State} (h : packetStep pkt s = .next t) :
    s.frames <+: t.frames ∧ s.skip <+: t.skip := by
  rcases packetStep_collects h with rfl | ⟨u, hf, -, hskip, hframes, -⟩
  · exact ⟨List.prefix_rfl, List.prefix_rfl⟩
  · rw [← hskip, ← hframes]
    rcases finishPacket_next hf with ⟨-, -, rfl⟩ | ⟨-, rfl⟩
    · exact ⟨List.prefix_append _ _, List.prefix_append _ _⟩
    · exact ⟨List.prefix_rfl, List.prefix_rfl⟩

/-- A host call other than `open` leaves the timeline alone. -/
theorem serveCall_timeline_eq {s t : State} (hc : ∀ bytes rest, s.calls ≠ .openStream bytes :: rest)
    (h : serveCall s = .next t) : t.frames = s.frames ∧ t.skip = s.skip := by
  rcases serveCall_not_open hc h with rfl | ⟨rest, r, rfl⟩ | ⟨rest, p, rfl⟩ | ⟨rest, -, -, rfl⟩ <;>
    exact ⟨rfl, rfl⟩

/-! ### Refusals -/

theorem resetState_atReset (s : State) : s.resetState.AtReset where
  fb := rfl
  pal i := by simp [palEntry]
  position := rfl
  hoff := rfl
  voff := rfl
  lastMp := rfl
  needsUpdate := rfl
  lastUpdateMs := rfl
  frames := rfl
  skip := rfl
  tempo := show (100 : BitVec 32).toInt = 100 by decide
  isOpen := rfl
  processed := rfl
  input := rfl
  inputLen := rfl
  truncated := rfl
  transparentSeen := rfl

/-- A packet step sets the mark only where the packet's instruction is refused (R262). -/
theorem packetStep_sets_refused {pkt : List Byte} {s t : State} (h : packetStep pkt s = .next t)
    (hs : s.refused = false) (ht : t.refused = true) : ∃ i r, decode pkt = .instr i ∧ exec i s = .refused r := by
  have completes (u : State) (hu : u.refused = false) : finishPacket u ≠ .next t := fun hf => by
    rw [finishPacket_frame hf] at ht
    exact Bool.false_ne_true (hu.symm.trans ht)
  cases hd : decode pkt with
  | instr i =>
    cases he : exec i s with
    | next u =>
      have hu : u.refused = false := by rw [exec_drawnFrom he]; exact hs
      rw [packetStep_instr hd, instrStep_next he] at h
      exact absurd h (completes _ hu)
    | fault f => simp [packetStep_instr hd, instrStep, he] at h
    | refused r => exact ⟨i, r, rfl, he⟩
  | reserved c => rw [packetStep_reserved hd] at h; exact absurd h (completes _ hs)
  | notCdg => rw [packetStep_notCdg hd] at h; exact absurd h (completes _ hs)
  | notAPacket => simp [packetStep, hd] at h

/-- A host call sets the mark only where `open` is given more than MAX_PACKETS packets (R230, R262). -/
theorem serveCall_sets_refused {s t : State} (h : serveCall s = .next t) (hs : s.refused = false)
    (ht : t.refused = true) :
    ∃ bytes rest, s.calls = .openStream bytes :: rest ∧ s.cfg.maxPackets < bytes.length / 24 := by
  have unmarked : s.refused ≠ true := by simp [hs]
  by_cases hc : ∃ bytes rest, s.calls = .openStream bytes :: rest
  · obtain ⟨bytes, rest, hc⟩ := hc
    rcases serveCall_open hc h with rfl | ⟨hlen, -⟩ | ⟨-, rfl⟩
    · exact absurd ht unmarked
    · exact ⟨bytes, rest, hc, hlen⟩
    · exact absurd ht unmarked
  · rcases serveCall_not_open (by simpa using hc) h with
      rfl | ⟨rest, r, rfl⟩ | ⟨rest, p, rfl⟩ | ⟨rest, -, -, rfl⟩ <;>
      exact absurd ht unmarked

/-- A step sets the mark only by a refused packet or by a refused `open`. -/
theorem step_sets_refused {s t : State} (h : step s = .next t) (ht : t.refused = true) :
    (s.running = true ∧ ∃ pkt i r, s.fetch = some pkt ∧ decode pkt = .instr i ∧ exec i s = .refused r) ∨
    (s.running = false ∧
      ∃ bytes rest, s.calls = .openStream bytes :: rest ∧ s.cfg.maxPackets < bytes.length / 24) := by
  obtain ⟨hs, ⟨hrun, -, pkt, hfetch, hp⟩ | ⟨-, -, rfl⟩ | ⟨hrun, hc⟩⟩ := step_next h
  · obtain ⟨i, r, hd, he⟩ := packetStep_sets_refused hp hs ht
    exact .inl ⟨hrun, pkt, i, r, hfetch, hd, he⟩
  · exact absurd (hs.symm.trans ht) Bool.false_ne_true
  · exact .inr ⟨hrun, serveCall_sets_refused hc hs ht⟩

/-! ### The tempo -/

section
variable (s : State) (p : BitVec 32)

theorem loadColors_setTempo (base : Nat) (colors : Vector Rgb12 8) :
    loadColors base colors (s.setTempo p) = (loadColors base colors s).setTempo p := by
  unfold loadColors
  rw [apply_ite (fun t => State.setTempo t p)]
  rfl

theorem execMemoryPreset_setTempo (color rep : BitVec 4) :
    execMemoryPreset color rep (s.setTempo p) = mapNext (fun t => t.setTempo p) (execMemoryPreset color rep s) := by
  unfold execMemoryPreset
  rw [apply_ite (mapNext _)]
  rfl

theorem tileBlock_setTempo (combine : Pixel → Pixel → Pixel) (color0 color1 : Pixel) (row : BitVec 5)
    (column : BitVec 6) (rows : Vector (BitVec 6) 12) :
    tileBlock combine color0 color1 row column rows (s.setTempo p) =
      mapNext (fun t => t.setTempo p) (tileBlock combine color0 color1 row column rows s) := by
  unfold tileBlock tileOutOfRange
  rw [apply_ite (mapNext _), State.setTempo_cfg]
  cases s.cfg.tileOobPolicy with
  | skip => rfl
  | refuse => rfl

theorem scroll_setTempo (mode : ScrollMode) (hCmd : HCmd) (hOffset : BitVec 3) (vCmd : VCmd) (vOffset : BitVec 4) :
    scroll mode hCmd hOffset vCmd vOffset (s.setTempo p) =
      mapNext (fun t => t.setTempo p) (scroll mode hCmd hOffset vCmd vOffset s) := by
  unfold scroll
  rw [State.setTempo_cfg]
  cases scrollRefusal s.cfg hCmd hOffset vCmd vOffset with
  | none => rfl
  | some r => rfl

/-- No instruction reads or writes the tempo (R35). -/
theorem exec_setTempo (i : Instr) : exec i (s.setTempo p) = mapNext (fun t => t.setTempo p) (exec i s) := by
  cases i with
  | memoryPreset color rep => exact execMemoryPreset_setTempo s p color rep
  | borderPreset color => rfl
  | tileNormal c0 c1 row column rows => exact tileBlock_setTempo s p _ c0 c1 row column rows
  | scrollPreset color hc ho vc vo => exact scroll_setTempo s p _ hc ho vc vo
  | scrollCopy hc ho vc vo => exact scroll_setTempo s p _ hc ho vc vo
  | defineTransparent => rfl
  | loadColorsLow colors => exact congrArg Host.Outcome.next (loadColors_setTempo s p 0 colors)
  | loadColorsHigh colors => exact congrArg Host.Outcome.next (loadColors_setTempo s p 8 colors)
  | tileXor c0 c1 row column rows => exact tileBlock_setTempo s p _ c0 c1 row column rows

theorem framePush_setTempo : framePush (s.setTempo p) = mapNext (fun t => t.setTempo p) (framePush s) := by
  unfold framePush
  rw [apply_ite (mapNext _)]
  rfl

theorem finishPacket_setTempo : finishPacket (s.setTempo p) = mapNext (fun t => t.setTempo p) (finishPacket s) := by
  unfold finishPacket
  rw [apply_ite (mapNext _), ← framePush_setTempo]
  rfl

theorem packetStep_setTempo (pkt : List Byte) :
    packetStep pkt (s.setTempo p) = mapNext (fun t => t.setTempo p) (packetStep pkt s) := by
  unfold packetStep
  cases decode pkt with
  | instr i =>
    simp only [instrStep, exec_setTempo]
    cases exec i s with
    | next u => exact finishPacket_setTempo (u.setLastMp i.isMemoryPreset) p
    | fault f => rfl
    | refused r => rfl
  | reserved c => exact finishPacket_setTempo (s.setLastMp false) p
  | notCdg => exact finishPacket_setTempo s p
  | notAPacket => rfl

theorem processStep_setTempo :
    processStep (s.setTempo p) = mapNext (fun t => t.setTempo p) (processStep s) := by
  by_cases hpos : s.position < s.inputLen / 24
  · have hpos' : (s.setTempo p).position < (s.setTempo p).inputLen / 24 := hpos
    have hfetch : (s.setTempo p).fetch = s.fetch := rfl
    cases hf : s.fetch with
    | none => simp [processStep, hpos, hfetch, hf, mapNext]
    | some pkt =>
      rw [processStep_packet hpos hf, processStep_packet hpos' (hfetch.trans hf)]
      exact packetStep_setTempo s p pkt
  · rw [processStep_end (Nat.not_lt.1 hpos), processStep_end (s := s.setTempo p) (Nat.not_lt.1 hpos)]
    rfl

end

end Sys2Proof.Machine

namespace Sys2Proof.Machine

/-! SUPPORT. What keeps the invariant `State.Inv`: each update of the state, then an instruction, the end of a packet
step, the packet step and a host call. -/

/-- NEEDS_UPDATE cleared. Between an instruction's effect and the end of its packet step only the clause `groupStart`
of the invariant may fail, and the state with the flag cleared meets all of it. -/
def State.clearUpdate (s : State) : State := { s with needsUpdate := false }

namespace State.Inv

variable {s : State}

theorem reply (h : s.Inv) (r : HostReply) : (s.reply r).Inv := { h with }

theorem setCalls (h : s.Inv) (calls : List HostCall) : (s.setCalls calls).Inv := { h with }

theorem setTempo (h : s.Inv) (p : BitVec 32) : (s.setTempo p).Inv := { h with }

theorem markRefused (h : s.Inv) : s.markRefused.Inv := { h with }

/-- `ResetState` leaves a closed decoder under the same parameters (R280). -/
theorem resetState (h : s.Inv) : s.resetState.Inv where
  cfgWf := h.cfgWf
  hoffRange := Nat.zero_le _
  voffRange := Nat.zero_le _
  paletteExpanded i := ⟨⟨0, 0, 0⟩, by simp [palEntry, expandColor, expandChannel]⟩
  skipParallel := rfl
  frameCount := (Nat.zero_div 12).symm
  frameTimes i f hf := by simp at hf
  positionBound := Nat.zero_le _
  inputBound := (Nat.zero_div 24).trans_le (Nat.zero_le _)
  groupStart _ := rfl
  updateTime := Nat.zero_le _
  inputWf := List.Pairwise.nil
  inputReadable _ := rfl
  closedPhase _ := ⟨rfl, rfl, rfl⟩
  runningPhase hr := by cases hr
  openPhase ho := by cases ho
  processedPhase hp := by cases hp
  truncatedPhase ht := by cases ht

/-- The decoder that has accepted the bytes of `open` (R230). -/
theorem accepted (h : s.Inv) {bytes : List Byte} (hlen : bytes.length / 24 ≤ s.cfg.maxPackets) :
    ({ s.resetState with
        input := Memory.ofBytes bytes, inputLen := bytes.length, isOpen := true } : State).Inv :=
  { h.resetState with
    positionBound := Nat.zero_le _
    inputBound := hlen
    inputWf := Memory.wf_ofBytes bytes
    inputReadable := fun a => by
      simp only [Memory.read_ofBytes, State.resetState_processed]
      by_cases ha : a < bytes.length <;> simp [ha]
    closedPhase := fun ho => by cases ho
    runningPhase := fun hr => by cases hr
    openPhase := fun _ _ _ => rfl
    processedPhase := fun hp => by cases hp
    truncatedPhase := fun ht => by cases ht }

/-- `process` begins on an open decoder that has not been processed (R232). -/
theorem begun (h : s.Inv) (ho : s.isOpen = true) (hp : s.processed = false) :
    ({ s with running := true } : State).Inv :=
  { h with
    closedPhase := fun hc => by simp [ho] at hc
    runningPhase := fun _ => ⟨ho, hp⟩
    openPhase := fun _ _ hr => by cases hr }

/-- `process` ends once every packet has been executed (R101, R232). -/
theorem endProcess (h : s.Inv) (hrun : s.running = true) (hpos : s.inputLen / 24 ≤ s.position) :
    s.endProcess.Inv := by
  obtain ⟨hopen, hproc⟩ := h.runningPhase hrun
  have htrunc : s.truncated = false := by
    cases ht : s.truncated with
    | false => rfl
    | true => exact absurd (h.truncatedPhase ht).1 (by simp [hproc])
  exact
    { h with
      inputWf := List.Pairwise.nil
      inputReadable := fun a => by simp [Memory.read]
      closedPhase := fun hc => by simp [hopen] at hc
      runningPhase := fun hr => by cases hr
      openPhase := fun _ hp => by cases hp
      processedPhase := fun _ => Nat.le_antisymm h.positionBound hpos
      truncatedPhase := fun ht => ⟨rfl, by simpa [htrunc] using ht⟩ }

/-- What an instruction writes (`State.drawnFrom`) keeps the invariant, the update flag apart. -/
theorem clearUpdate_of_drawnFrom {u : State} (h : s.Inv) (hu : u.drawnFrom s) (hh : u.hoff.toNat ≤ 5)
    (hv : u.voff.toNat ≤ 11) (hpal : u.PaletteExpanded) (htime : u.lastUpdateMs.toNat ≤ s.position * 1000 / 300) :
    u.clearUpdate.Inv := by
  unfold State.drawnFrom at hu
  rw [hu]
  exact
    { h with
      hoffRange := hh
      voffRange := hv
      paletteExpanded := hpal
      groupStart := fun _ => rfl
      updateTime := htime }

theorem clearUpdate (h : s.Inv) : s.clearUpdate.Inv := { h with groupStart := fun _ => rfl }

theorem clearUpdate_setLastMp (h : s.clearUpdate.Inv) (b : Bool) : (s.setLastMp b).clearUpdate.Inv := { h with }

end State.Inv

theorem exec_keeps_inv {i : Instr} {s u : State} (h : s.Inv) (he : exec i s = .next u) : u.clearUpdate.Inv := by
  obtain ⟨hh, hv⟩ := exec_offsets he h.hoffRange h.voffRange
  have htime : u.lastUpdateMs.toNat ≤ s.position * 1000 / 300 := by
    rcases exec_lastUpdateMs he with e | e <;> rw [e]
    · exact h.updateTime
    · exact streamMs_toNat_le _
  exact h.clearUpdate_of_drawnFrom (exec_drawnFrom he) hh hv (exec_paletteExpanded he h.paletteExpanded) htime

/-- Frame i starts at 40 * (i + 1) ms, because the push of frame i is at packet 12 * (i + 1) (R215). -/
theorem frameTimes_pushFrame {s : State} (h : s.FrameTimes) (hpos : s.position = 12 * (s.frames.length + 1))
    (hmax : s.position ≤ 1288490188) : s.pushFrame.FrameTimes := by
  intro i f hf
  rw [State.pushFrame_frames, List.getElem?_append] at hf
  split at hf
  · exact h i f hf
  · obtain ⟨hi, rfl⟩ : i - s.frames.length = 0 ∧ currentFrame s = f := by
      simpa [List.getElem?_singleton] using hf
    show (streamMs s.position).toNat = _
    rw [streamMs_toNat hmax]
    omega

/-- The end of a packet step re-establishes the whole invariant: a push clears the update flag, and without a push
the new position begins no group (R105, R106, R214). -/
theorem finishPacket_keeps_inv {u t : State} (h : u.clearUpdate.Inv) (hrun : u.running = true)
    (hlt : u.position < u.inputLen / 24) (hf : finishPacket u = .next t) : t.Inv := by
  have hproc : u.processed = false := (h.runningPhase hrun).2
  have hcount : u.frames.length = u.position / 12 := h.frameCount
  have htime : u.lastUpdateMs.toNat ≤ (u.position + 1) * 1000 / 300 :=
    h.updateTime.trans (Nat.div_le_div_right (Nat.mul_le_mul_right _ (Nat.le_succ _)))
  have hpar : u.skip.length = u.frames.length := h.skipParallel
  have hin : u.inputLen / 24 ≤ u.cfg.maxPackets := h.inputBound
  have hmax : u.cfg.maxPackets ≤ 1288490188 := h.cfgWf
  rcases finishPacket_next hf with ⟨hmod, -, rfl⟩ | ⟨hmod, rfl⟩
  · exact
      { h with
        skipParallel := by simp [hpar]
        frameCount := by simp; omega
        frameTimes := frameTimes_pushFrame h.frameTimes (by simp; omega) (by simp; omega)
        positionBound := hlt
        groupStart := fun _ => rfl
        updateTime := htime
        openPhase := fun _ _ hr => by simp [hrun] at hr
        processedPhase := fun hp => by simp [hproc] at hp }
  · exact
      { h with
        frameCount := by simp; omega
        positionBound := hlt
        groupStart := fun hg => absurd hg hmod
        updateTime := htime
        openPhase := fun _ _ hr => by simp [hrun] at hr
        processedPhase := fun hp => by simp [hproc] at hp }

theorem packetStep_keeps_inv {pkt : List Byte} {s t : State} (h : s.Inv) (hrun : s.running = true)
    (hlt : s.position < s.inputLen / 24) (hs : packetStep pkt s = .next t) : t.Inv := by
  rcases packetStep_next hs with rfl | ⟨i, u, -, he, hf⟩ | ⟨c, -, hf⟩ | ⟨-, hf⟩
  · exact h.markRefused
  · obtain ⟨hurun, hult⟩ : u.running = true ∧ u.position < u.inputLen / 24 := by
      rw [exec_drawnFrom he]
      exact ⟨hrun, hlt⟩
    exact finishPacket_keeps_inv ((exec_keeps_inv h he).clearUpdate_setLastMp i.isMemoryPreset) hurun hult hf
  · exact finishPacket_keeps_inv (h.clearUpdate.clearUpdate_setLastMp false) hrun hlt hf
  · exact finishPacket_keeps_inv h.clearUpdate hrun hlt hf

theorem serveCall_keeps_inv {s t : State} (h : s.Inv) (hs : serveCall s = .next t) : t.Inv := by
  by_cases hc : ∃ bytes rest, s.calls = .openStream bytes :: rest
  · obtain ⟨bytes, rest, hc⟩ := hc
    rcases serveCall_open hc hs with rfl | ⟨-, rfl⟩ | ⟨hlen, rfl⟩
    · exact (h.setCalls rest).resetState.reply _
    · exact (h.setCalls rest).resetState.markRefused
    · exact ((h.setCalls rest).accepted hlen).reply _
  · rcases serveCall_not_open (by simpa using hc) hs with
      rfl | ⟨rest, r, rfl⟩ | ⟨rest, p, rfl⟩ | ⟨rest, ho, hp, rfl⟩
    · exact h
    · exact (h.setCalls rest).reply r
    · exact ((h.setCalls rest).setTempo p).reply .done
    · exact (h.setCalls rest).begun ho hp

end Sys2Proof.Machine

namespace Sys2Proof.Machine

/-! SUPPORT. The statements of 10_state.md, settled. -/

/-- Settles O57, by what a step can be: a packet step, the end of `process`, or a host call. -/
theorem stepKeepsInvariant : Obligations.StepKeepsInvariant := by
  intro s t h hs
  obtain ⟨-, ⟨hrun, hlt, pkt, -, hp⟩ | ⟨hrun, hend, rfl⟩ | ⟨-, hc⟩⟩ := step_next hs
  · exact packetStep_keeps_inv h hrun hlt hp
  · exact (h.endProcess hrun hend).reply _
  · exact serveCall_keeps_inv h hc

/-- Settles O33, by the class of the packet (`packetStep_next`). -/
theorem presetFlagFollowsLastCommand : Obligations.PresetFlagFollowsLastCommand := by
  intro pkt s t hs href
  simp only [cmdField_eq_iff, insField_eq_one_iff]
  rcases packetStep_next hs with rfl | ⟨i, u, hd, -, hf⟩ | ⟨c, hd, hf⟩ | ⟨hd, hf⟩
  · cases href
  · have hlast : t.lastMp = i.isMemoryPreset := by rw [finishPacket_frame hf, State.setLastMp_lastMp]
    rw [if_pos (cmdField_of_instr hd), hlast, insField_of_instr hd, Bool.eq_iff_iff, decide_eq_true_iff]
    exact isMemoryPreset_iff_code i
  · have hlast : t.lastMp = false := by rw [finishPacket_frame hf, State.setLastMp_lastMp]
    rw [if_pos (cmdField_of_reserved hd), hlast, decide_eq_false (insField_of_reserved hd)]
  · rw [if_neg (cmdField_of_notCdg hd), finishPacket_frame hf]

/-- Settles O37: the packet step collects the mark before its end pushes and clears it. -/
theorem updateFlagCollects : Obligations.UpdateFlagCollects := by
  intro pkt s t hs href
  rcases packetStep_collects hs with rfl | ⟨u, hf, hpos, hskip, hframes, hmark⟩
  · cases href
  · obtain ⟨hbetween, hpush⟩ := finishPacket_timeline hf
    rw [hpos, hskip, hframes, hmark] at hbetween hpush
    refine ⟨hbetween, fun hmod => ?_⟩
    obtain ⟨hflag, hbit, f, hframe⟩ := hpush hmod
    exact ⟨hflag, hbit, by simp [hframe]⟩

/-- Settles O39: only the frame push writes the timeline, and it appends. -/
theorem pushedFramesNeverChange : Obligations.PushedFramesNeverChange := by
  intro s t hs hopen
  obtain ⟨-, ⟨-, -, pkt, -, hp⟩ | ⟨-, -, rfl⟩ | ⟨hrun, hc⟩⟩ := step_next hs
  · exact packetStep_timeline_prefix hp
  · exact ⟨List.prefix_rfl, List.prefix_rfl⟩
  · obtain ⟨hframes, hskip⟩ := serveCall_timeline_eq (hopen hrun) hc
    rw [hframes, hskip]
    exact ⟨List.prefix_rfl, List.prefix_rfl⟩

/-- Settles O52: every part of a step of `process` commutes with setting the tempo. -/
theorem tempoDoesNotAffectDecoding : Obligations.TempoDoesNotAffectDecoding := by
  intro s p hrun
  cases href : s.refused with
  | true =>
    rw [step_refused href, step_refused (s := s.setTempo p) href]
    rfl
  | false =>
    rw [step_running href hrun, step_running (s := s.setTempo p) href hrun]
    exact processStep_setTempo s p

/-- Settles O54: two steps that set the mark, the steps after it, and that no other step sets it. -/
theorem refusalsAreMarked : Obligations.RefusalsAreMarked := by
  refine ⟨?openTooLong, ?packetRefused, fun s h => step_refused h, ?nothingElse⟩
  case openTooLong =>
    intro s bytes rest hs hrun hcalls hlen
    have hstep : step s = .next (s.setCalls rest).resetState.markRefused := by
      rw [step_serving hs hrun, serveCall_refused hcalls (perform_open_tooLong hlen)]
    exact ⟨_, hstep, rfl, { resetState_atReset (s.setCalls rest) with }, rfl, rfl, rfl, rfl⟩
  case packetRefused =>
    intro s pkt i r hs hrun hpos hfetch hd he
    rw [step_running hs hrun, processStep_packet hpos hfetch, packetStep_instr hd, instrStep_refused he]
    rfl
  case nothingElse =>
    intro s t h ht
    rcases step_sets_refused h ht with ⟨hrun, pkt, i, r, hfetch, hd, he⟩ | ⟨hrun, bytes, rest, hcalls, hlen⟩
    · obtain ⟨hwf, hcfg⟩ := exec_refused he
      exact .inl ⟨hrun, hcfg, pkt, i, r, hfetch, hd, he, hwf⟩
    · exact .inr ⟨bytes, rest, hrun, hcalls, hlen⟩

/-- Settles O40: the largest time, (1288490188 * 1000) div 300, is below 2 ^ 32. -/
theorem millisecondsFit : Obligations.MillisecondsFit := fun _ hp => streamMs_toNat hp

end Sys2Proof.Machine

namespace Sys2Proof.Machine

/-! SUPPORT. The statement of 20_memory.md, settled. -/

/-- Of the nine host operations, the six but `open`, `process` and `set_tempo` only return a reply (R64). -/
theorem perform_readOnly {c : HostCall} (s : State) (hopen : ∀ bytes, c ≠ .openStream bytes) (hproc : c ≠ .process)
    (htempo : ∀ p, c ≠ .setTempo p) : ∃ r, perform c s = .returned r s := by
  rcases perform_cases c s hopen with hret | ⟨p, hc, -⟩ | ⟨hc, -⟩
  · exact hret
  · exact absurd hc (htempo p)
  · exact absurd hc hproc

/-- Settles O44: the step serves the call, and the call returns the state it was given. -/
theorem queriesWriteNothing : Obligations.QueriesWriteNothing := by
  intro s c rest href hrun hcalls hopen hproc htempo
  obtain ⟨r, hret⟩ := perform_readOnly (s.setCalls rest) hopen hproc htempo
  have hstep : step s = .next ((s.setCalls rest).reply r) := by
    rw [step_serving href hrun, serveCall_returned hcalls hret]
  exact ⟨r, hstep⟩

end Sys2Proof.Machine

namespace Sys2Proof

/-! SUPPORT. The rules of the decoder for 30_encoding.md: what a CD+G packet decodes to at each code, which operands a
decoded instruction has, which bits decoding reads, and the fields of an encoded instruction. -/

open Sys2Proof.Machine

/-! ### Decoding, code by code (R78) -/

section
variable {pkt : List Byte}

theorem decodeCdg_memoryPreset (h : insField pkt = 0x01) : decodeCdg pkt =
    .instr (.memoryPreset ((dataByte pkt 0).extractLsb' 0 4) ((dataByte pkt 1).extractLsb' 0 4)) := by
  simp [decodeCdg, h]

theorem decodeCdg_borderPreset (h : insField pkt = 0x02) :
    decodeCdg pkt = .instr (.borderPreset ((dataByte pkt 0).extractLsb' 0 4)) := by
  simp [decodeCdg, h]

theorem decodeCdg_tileNormal (h : insField pkt = 0x06) : decodeCdg pkt =
    .instr (.tileNormal ((dataByte pkt 0).extractLsb' 0 4) ((dataByte pkt 1).extractLsb' 0 4)
      ((dataByte pkt 2).extractLsb' 0 5) ((dataByte pkt 3).extractLsb' 0 6) (tileRows pkt)) := by
  simp [decodeCdg, h]

theorem decodeCdg_scrollPreset (h : insField pkt = 0x14) : decodeCdg pkt =
    .instr (.scrollPreset ((dataByte pkt 0).extractLsb' 0 4)
      (HCmd.ofBits ((dataByte pkt 1).extractLsb' 4 2)) ((dataByte pkt 1).extractLsb' 0 3)
      (VCmd.ofBits ((dataByte pkt 2).extractLsb' 4 2)) ((dataByte pkt 2).extractLsb' 0 4)) := by
  simp [decodeCdg, h]

theorem decodeCdg_scrollCopy (h : insField pkt = 0x18) : decodeCdg pkt =
    .instr (.scrollCopy (HCmd.ofBits ((dataByte pkt 1).extractLsb' 4 2)) ((dataByte pkt 1).extractLsb' 0 3)
      (VCmd.ofBits ((dataByte pkt 2).extractLsb' 4 2)) ((dataByte pkt 2).extractLsb' 0 4)) := by
  simp [decodeCdg, h]

theorem decodeCdg_defineTransparent (h : insField pkt = 0x1C) : decodeCdg pkt = .instr .defineTransparent := by
  simp [decodeCdg, h]

theorem decodeCdg_loadColorsLow (h : insField pkt = 0x1E) :
    decodeCdg pkt = .instr (.loadColorsLow (payloadColors pkt)) := by
  simp [decodeCdg, h]

theorem decodeCdg_loadColorsHigh (h : insField pkt = 0x1F) :
    decodeCdg pkt = .instr (.loadColorsHigh (payloadColors pkt)) := by
  simp [decodeCdg, h]

theorem decodeCdg_tileXor (h : insField pkt = 0x26) : decodeCdg pkt =
    .instr (.tileXor ((dataByte pkt 0).extractLsb' 0 4) ((dataByte pkt 1).extractLsb' 0 4)
      ((dataByte pkt 2).extractLsb' 0 5) ((dataByte pkt 3).extractLsb' 0 6) (tileRows pkt)) := by
  simp [decodeCdg, h]

theorem Instr.code_mem_table (i : Instr) : i.code.toNat ∈ [1, 2, 6, 20, 24, 28, 30, 31, 38] := by
  cases i <;> simp [Instr.code]

/-- A code that is no instruction's is reserved (R82). -/
theorem decode_reserved (hl : pkt.length = 24) (hc : cmdField pkt = 9)
    (h : (insField pkt).toNat ∉ [1, 2, 6, 20, 24, 28, 30, 31, 38]) : decode pkt = .reserved (insField pkt) := by
  rcases decodeCdg_cases pkt with ⟨i, e⟩ | e <;> rw [← decode_of_cmdField hl hc] at e
  · exact absurd (insField_of_instr e ▸ i.code_mem_table) h
  · exact e

/-! ### The operands of a decoded instruction -/

theorem decodeCdg_of_instr {i : Instr} (h : decode pkt = .instr i) : decodeCdg pkt = .instr i := by
  rcases decode_eq_or pkt with e | e | e <;> rw [e] at h
  · exact h
  · cases h
  · cases h

theorem operands_of_memoryPreset {color rep : BitVec 4} (h : decode pkt = .instr (.memoryPreset color rep)) :
    color = (dataByte pkt 0).extractLsb' 0 4 ∧ rep = (dataByte pkt 1).extractLsb' 0 4 := by
  have hd := decodeCdg_of_instr h
  rw [decodeCdg_memoryPreset (insField_of_instr h)] at hd
  cases hd
  exact ⟨rfl, rfl⟩

theorem operand_of_borderPreset {color : BitVec 4} (h : decode pkt = .instr (.borderPreset color)) :
    color = (dataByte pkt 0).extractLsb' 0 4 := by
  have hd := decodeCdg_of_instr h
  rw [decodeCdg_borderPreset (insField_of_instr h)] at hd
  cases hd
  rfl

section
variable {color : BitVec 4} {hCmd : HCmd} {hOffset : BitVec 3} {vCmd : VCmd} {vOffset : BitVec 4}

theorem color_of_scrollPreset (h : decode pkt = .instr (.scrollPreset color hCmd hOffset vCmd vOffset)) :
    color = (dataByte pkt 0).extractLsb' 0 4 := by
  have hd := decodeCdg_of_instr h
  rw [decodeCdg_scrollPreset (insField_of_instr h)] at hd
  cases hd
  rfl

theorem operands_of_scroll (h : decode pkt = .instr (.scrollPreset color hCmd hOffset vCmd vOffset) ∨
      decode pkt = .instr (.scrollCopy hCmd hOffset vCmd vOffset)) :
    hCmd = HCmd.ofBits ((dataByte pkt 1).extractLsb' 4 2) ∧ hOffset = (dataByte pkt 1).extractLsb' 0 3 ∧
      vCmd = VCmd.ofBits ((dataByte pkt 2).extractLsb' 4 2) ∧ vOffset = (dataByte pkt 2).extractLsb' 0 4 := by
  rcases h with h | h <;> have hd := decodeCdg_of_instr h
  · rw [decodeCdg_scrollPreset (insField_of_instr h)] at hd
    cases hd
    exact ⟨rfl, rfl, rfl, rfl⟩
  · rw [decodeCdg_scrollCopy (insField_of_instr h)] at hd
    cases hd
    exact ⟨rfl, rfl, rfl, rfl⟩

end

theorem operands_of_loadColors {colors : Vector Rgb12 8}
    (h : decode pkt = .instr (.loadColorsLow colors) ∨ decode pkt = .instr (.loadColorsHigh colors)) :
    colors = payloadColors pkt := by
  rcases h with h | h <;> have hd := decodeCdg_of_instr h
  · rw [decodeCdg_loadColorsLow (insField_of_instr h)] at hd
    cases hd
    rfl
  · rw [decodeCdg_loadColorsHigh (insField_of_instr h)] at hd
    cases hd
    rfl

end

/-! ### The bits a field is -/

theorem toNat_field (b : Byte) (start len : Nat) :
    (b.extractLsb' start len).toNat = b.toNat / 2 ^ start % 2 ^ len := by
  rw [BitVec.extractLsb'_toNat, Nat.shiftRight_eq_div_pow]

theorem toNat_low_field (b : Byte) (len : Nat) : (b.extractLsb' 0 len).toNat = b.toNat % 2 ^ len := by
  rw [toNat_field, Nat.pow_zero, Nat.div_one]

/-- A channel that is two bits of one byte over two bits of the next (R79). -/
theorem toNat_append_pair (x y : BitVec 2) : (x ++ y).toNat = x.toNat * 4 + y.toNat := by
  rw [BitVec.toNat_append, ← Nat.shiftLeft_add_eq_or_of_lt y.isLt, Nat.shiftLeft_eq]

/-- The mask 0x3F keeps the number that stands in bits 5:0 (R9). -/
theorem toNat_and_mask (b : Byte) : (b &&& 0x3F#8).toNat = (b.extractLsb' 0 6).toNat := by
  rw [BitVec.toNat_and, toNat_low_field]
  exact Nat.and_two_pow_sub_one_eq_mod b.toNat 6

theorem HCmd.ofBits_eq_getD (b : BitVec 2) :
    HCmd.ofBits b = [HCmd.stay, .right, .left, .three].getD b.toNat .stay := by
  revert b; decide

theorem VCmd.ofBits_eq_getD (b : BitVec 2) :
    VCmd.ofBits b = [VCmd.stay, .down, .up, .three].getD b.toNat .stay := by
  revert b; decide

/-! ### Decoding reads bits 5:0 only (D16) -/

/-- Bytes alike under the mask 0x3F have every field inside bits 5:0 alike. -/
theorem field_congr {b c : Byte} (h : b &&& 0x3F#8 = c &&& 0x3F#8) {start len : Nat} (hs : start + len ≤ 6) :
    b.extractLsb' start len = c.extractLsb' start len := by
  have low : b.extractLsb' 0 6 = c.extractLsb' 0 6 := BitVec.eq_of_toNat_eq <| by
    rw [← toNat_and_mask, ← toNat_and_mask, h]
  rw [← BitVec.extractLsb'_extractLsb'_of_le hs, low, BitVec.extractLsb'_extractLsb'_of_le hs]

section
variable {p q : List Byte} (hd : ∀ k < 16, dataByte p k &&& 0x3F#8 = dataByte q k &&& 0x3F#8)
include hd

theorem tileRows_congr : tileRows p = tileRows q := by
  refine Vector.ext fun i hi => ?_
  simp only [tileRows, tabulate_getElem]
  exact field_congr (hd (4 + i) (by omega)) (by decide)

theorem payloadColors_congr : payloadColors p = payloadColors q := by
  refine Vector.ext fun k hk => ?_
  have first {start len : Nat} := field_congr (start := start) (len := len) (hd (2 * k) (by omega))
  have second {start len : Nat} := field_congr (start := start) (len := len) (hd (2 * k + 1) (by omega))
  simp only [payloadColors, tabulate_getElem, payloadColor, Rgb12.mk.injEq]
  exact ⟨first (by decide), congrArg₂ _ (first (by decide)) (second (by decide)), second (by decide)⟩

theorem decodeCdg_congr (hins : insField p = insField q) : decodeCdg p = decodeCdg q := by
  have field (k start len : Nat) (hk : k < 16) (hs : start + len ≤ 6) :
      (dataByte p k).extractLsb' start len = (dataByte q k).extractLsb' start len := field_congr (hd k hk) hs
  simp only [decodeCdg, hins, tileRows_congr hd, payloadColors_congr hd, field 0 0 4, field 1 0 4, field 2 0 5,
    field 3 0 6, field 1 4 2, field 1 0 3, field 2 4 2, field 2 0 4, Nat.reduceLT, Nat.reduceAdd, Nat.reduceLeDiff]

end

/-! ### The fields of an encoded instruction (R86) -/

theorem Instr.payload_length (i : Instr) : i.payload.length = 16 := by
  cases i with
  | memoryPreset | borderPreset | scrollPreset | scrollCopy | defineTransparent => rfl
  | tileNormal | tileXor => simp [Instr.payload, tilePayload]
  | loadColorsLow colors | loadColorsHigh colors => exact Laws.EncodedShape.colors_length colors

theorem encode_shape (i : Instr) : Laws.EncodedShape.Statement i := Laws.EncodedShape.of_payload i.payload_length

theorem field_setWidth {n : Nat} (x : BitVec n) (hn : n ≤ 8) : (x.setWidth 8).extractLsb' 0 n = x := by
  rw [BitVec.extractLsb'_setWidth_of_le (by omega), BitVec.extractLsb'_eq_self]

@[simp] theorem insField_encode (i : Instr) : insField (encode i) = i.code := field_setWidth i.code (by decide)

theorem decode_encode_eq_decodeCdg (i : Instr) : decode (encode i) = decodeCdg (encode i) := by
  obtain ⟨hlen, -⟩ := encode_shape i
  exact decode_of_cmdField hlen rfl

theorem dataByte_encode (i : Instr) {k : Nat} (hk : k < 16) : dataByte (encode i) k = i.payload.getD k 0 := by
  have hlt : k < i.payload.length := by rw [i.payload_length]; exact hk
  have hdrop : dataByte (encode i) k = (i.payload ++ [0, 0, 0, 0]).getD k 0 := by
    rw [dataByte, pktByte, Nat.add_comm]
    rfl
  rw [hdrop, List.getD_append _ _ _ _ hlt]

theorem HCmd.ofBits_toBits (c : HCmd) : HCmd.ofBits c.toBits = c := by cases c <;> rfl

theorem VCmd.ofBits_toBits (c : VCmd) : VCmd.ofBits c.toBits = c := by cases c <;> rfl

/-- A field between higher and lower bits of a byte. -/
theorem field_between {v len w : Nat} (xhi : BitVec v) (x : BitVec len) (xlo : BitVec w) :
    (xhi ++ x ++ xlo).extractLsb' w len = x := by
  rw [BitVec.extractLsb'_append_eq_of_le (Nat.le_refl w), Nat.sub_self, BitVec.extractLsb'_append_eq_right]

/-- The fields of the bytes `0 0 h h 0 o o o` and `0 0 v v o o o o` of format S (R77). -/
theorem fields_scrollBytes (hCmd : HCmd) (hOffset : BitVec 3) (vCmd : VCmd) (vOffset : BitVec 4) :
    ∃ b c : Byte, scrollBytes hCmd hOffset vCmd vOffset = [b, c] ∧
      b.extractLsb' 4 2 = hCmd.toBits ∧ b.extractLsb' 0 3 = hOffset ∧
      c.extractLsb' 4 2 = vCmd.toBits ∧ c.extractLsb' 0 4 = vOffset :=
  ⟨_, _, rfl, (BitVec.extractLsb'_append_eq_of_le (by decide)).trans (field_between 0#2 hCmd.toBits 0#1),
    BitVec.extractLsb'_append_eq_right, field_between 0#2 vCmd.toBits vOffset, BitVec.extractLsb'_append_eq_right⟩

/-- The two payload bytes of a colour hold its channels, green split over both (R79). -/
theorem channels_payload (c : Rgb12) : ∃ b d : Byte, c.payload = [b, d] ∧ b.extractLsb' 2 4 = c.r ∧
    b.extractLsb' 0 2 ++ d.extractLsb' 4 2 = c.g ∧ d.extractLsb' 0 4 = c.b := by
  refine ⟨_, _, rfl, field_between 0#2 c.r _, ?_, BitVec.extractLsb'_append_eq_right⟩
  exact (congrArg₂ _ BitVec.extractLsb'_append_eq_right (field_between 0#2 _ c.b)).trans
    BitVec.extractLsb'_append_extractLsb'

/-- Bytes 2k and 2k + 1 of a payload of format C are those of colour k (R79). -/
theorem getD_flatMap_payload (cs : List Rgb12) (k : Nat) (hk : k < cs.length) :
    (cs.flatMap Rgb12.payload).getD (2 * k) 0 = cs[k].payload.getD 0 0 ∧
      (cs.flatMap Rgb12.payload).getD (2 * k + 1) 0 = cs[k].payload.getD 1 0 := by
  induction cs generalizing k with
  | nil => cases hk
  | cons c cs ih =>
    cases k with
    | zero => exact ⟨rfl, rfl⟩
    | succ k => exact ih k (Nat.lt_of_succ_lt_succ hk)

/-- An operand that is stored alone in a payload byte is read back from it. -/
theorem field_encode {i : Instr} {n k : Nat} (x : BitVec n) (hk : k < 16) (hn : n ≤ 8)
    (hx : i.payload.getD k 0 = x.setWidth 8) : (dataByte (encode i) k).extractLsb' 0 n = x := by
  rw [dataByte_encode i hk, hx, field_setWidth x hn]

theorem tileRows_encode {i : Instr} {color0 color1 : BitVec 4} {row : BitVec 5} {column : BitVec 6}
    {rows : Vector (BitVec 6) 12} (h : i.payload = tilePayload color0 color1 row column rows) :
    tileRows (encode i) = rows := by
  refine Vector.ext fun k hk => ?_
  rw [tileRows, tabulate_getElem]
  refine field_encode rows[k] (by omega) (by decide) ?_
  rw [h, tilePayload, Nat.add_comm]
  simp [hk]

theorem tileFields_encode {i : Instr} {color0 color1 : BitVec 4} {row : BitVec 5} {column : BitVec 6}
    {rows : Vector (BitVec 6) 12} (h : i.payload = tilePayload color0 color1 row column rows) :
    (dataByte (encode i) 0).extractLsb' 0 4 = color0 ∧ (dataByte (encode i) 1).extractLsb' 0 4 = color1 ∧
      (dataByte (encode i) 2).extractLsb' 0 5 = row ∧ (dataByte (encode i) 3).extractLsb' 0 6 = column ∧
      tileRows (encode i) = rows :=
  ⟨field_encode color0 (by decide) (by decide) (by rw [h]; rfl),
    field_encode color1 (by decide) (by decide) (by rw [h]; rfl),
    field_encode row (by decide) (by decide) (by rw [h]; rfl),
    field_encode column (by decide) (by decide) (by rw [h]; rfl), tileRows_encode h⟩

theorem payloadColors_encode {i : Instr} {colors : Vector Rgb12 8}
    (h : i.payload = colors.toList.flatMap Rgb12.payload) : payloadColors (encode i) = colors := by
  refine Vector.ext fun k hk => ?_
  obtain ⟨hfirst, hsecond⟩ := getD_flatMap_payload colors.toList k (by simpa using hk)
  obtain ⟨b, d, hbytes, hr, hg, hb⟩ := channels_payload colors[k]
  rw [payloadColors, tabulate_getElem, payloadColor, dataByte_encode i (by omega), dataByte_encode i (by omega), h,
    hfirst, hsecond, Vector.getElem_toList, hbytes]
  exact congr (congrArg₂ Rgb12.mk hr hg) hb

theorem scrollFields_encode {c : Byte} {rest : List Byte} {hCmd : HCmd} {hOffset : BitVec 3} {vCmd : VCmd}
    {vOffset : BitVec 4} {i : Instr} (h : i.payload = [c] ++ scrollBytes hCmd hOffset vCmd vOffset ++ rest) :
    HCmd.ofBits ((dataByte (encode i) 1).extractLsb' 4 2) = hCmd ∧ (dataByte (encode i) 1).extractLsb' 0 3 = hOffset ∧
      VCmd.ofBits ((dataByte (encode i) 2).extractLsb' 4 2) = vCmd ∧
      (dataByte (encode i) 2).extractLsb' 0 4 = vOffset := by
  obtain ⟨b, d, hbytes, hh, hho, hv, hvo⟩ := fields_scrollBytes hCmd hOffset vCmd vOffset
  have hfirst : dataByte (encode i) 1 = b := by rw [dataByte_encode i (by decide), h, hbytes]; rfl
  have hsecond : dataByte (encode i) 2 = d := by rw [dataByte_encode i (by decide), h, hbytes]; rfl
  rw [hfirst, hsecond, hh, hv]
  exact ⟨hCmd.ofBits_toBits, hho, vCmd.ofBits_toBits, hvo⟩

theorem decode_encode (i : Instr) : decode (encode i) = .instr i := by
  rw [decode_encode_eq_decodeCdg]
  cases i with
  | memoryPreset color rep =>
    rw [decodeCdg_memoryPreset (insField_encode _), field_encode color (by decide) (by decide) rfl,
      field_encode rep (by decide) (by decide) rfl]
  | borderPreset color =>
    rw [decodeCdg_borderPreset (insField_encode _), field_encode color (by decide) (by decide) rfl]
  | tileNormal color0 color1 row column rows =>
    obtain ⟨hc0, hc1, hrow, hcolumn, hrows⟩ := tileFields_encode (i := .tileNormal color0 color1 row column rows) rfl
    rw [decodeCdg_tileNormal (insField_encode _), hc0, hc1, hrow, hcolumn, hrows]
  | scrollPreset color hCmd hOffset vCmd vOffset =>
    obtain ⟨hh, hho, hv, hvo⟩ := scrollFields_encode (i := .scrollPreset color hCmd hOffset vCmd vOffset) rfl
    rw [decodeCdg_scrollPreset (insField_encode _), field_encode color (by decide) (by decide) rfl, hh, hho, hv, hvo]
  | scrollCopy hCmd hOffset vCmd vOffset =>
    obtain ⟨hh, hho, hv, hvo⟩ := scrollFields_encode (i := .scrollCopy hCmd hOffset vCmd vOffset) rfl
    rw [decodeCdg_scrollCopy (insField_encode _), hh, hho, hv, hvo]
  | defineTransparent => exact decodeCdg_defineTransparent (insField_encode _)
  | loadColorsLow colors => rw [decodeCdg_loadColorsLow (insField_encode _), payloadColors_encode rfl]
  | loadColorsHigh colors => rw [decodeCdg_loadColorsHigh (insField_encode _), payloadColors_encode rfl]
  | tileXor color0 color1 row column rows =>
    obtain ⟨hc0, hc1, hrow, hcolumn, hrows⟩ := tileFields_encode (i := .tileXor color0 color1 row column rows) rfl
    rw [decodeCdg_tileXor (insField_encode _), hc0, hc1, hrow, hcolumn, hrows]

/-! ### A packet that is not CD+G (R81, R102) -/

theorem packetStep_of_other {pkt : List Byte} (hl : pkt.length = 24) (h : cmdField pkt ≠ 9) (s : State) :
    packetStep pkt s = finishPacket s :=
  packetStep_notCdg (decode_of_other hl h) s

end Sys2Proof

namespace Sys2Proof

/-! SUPPORT. The statements of 30_encoding.md, settled. -/

open Sys2Proof.Machine

/-- Settles O9, format by format (`decode_encode`). -/
theorem decodeEncodeRoundTrip : Obligations.DecodeEncodeRoundTrip := decode_encode

/-- Settles O3, by the row of the decoder at each code. -/
theorem instructionFieldSelects : Obligations.InstructionFieldSelects := by
  intro pkt hl
  refine ⟨fun h => decode_of_other hl (mt (cmdField_eq_iff pkt).2 h), fun h => ?_⟩
  have hc : cmdField pkt = 9 := (cmdField_eq_iff pkt).1 h
  have hins : (pkt.getD 1 0 &&& 0x3F#8).toNat = (insField pkt).toNat := toNat_and_mask _
  have hd : decode pkt = decodeCdg pkt := decode_of_cmdField hl hc
  rw [hins]
  split <;> rw [hd]
  case h_1 e => exact ⟨_, _, decodeCdg_memoryPreset (BitVec.eq_of_toNat_eq e)⟩
  case h_2 e => exact ⟨_, decodeCdg_borderPreset (BitVec.eq_of_toNat_eq e)⟩
  case h_3 e => exact ⟨_, _, _, _, _, decodeCdg_tileNormal (BitVec.eq_of_toNat_eq e)⟩
  case h_4 e => exact ⟨_, _, _, _, _, decodeCdg_scrollPreset (BitVec.eq_of_toNat_eq e)⟩
  case h_5 e => exact ⟨_, _, _, _, decodeCdg_scrollCopy (BitVec.eq_of_toNat_eq e)⟩
  case h_6 e => exact decodeCdg_defineTransparent (BitVec.eq_of_toNat_eq e)
  case h_7 e => exact ⟨_, decodeCdg_loadColorsLow (BitVec.eq_of_toNat_eq e)⟩
  case h_8 e => exact ⟨_, decodeCdg_loadColorsHigh (BitVec.eq_of_toNat_eq e)⟩
  case h_9 e => exact ⟨_, _, _, _, _, decodeCdg_tileXor (BitVec.eq_of_toNat_eq e)⟩
  case h_10 h1 h2 h6 h20 h24 h28 h30 h31 h38 =>
    rw [BitVec.ofNat_toNat, BitVec.setWidth_eq, ← hd]
    refine decode_reserved hl hc ?_
    simp only [List.mem_cons, List.not_mem_nil, not_or, not_false_eq_true, and_true]
    exact ⟨h1, h2, h6, h20, h24, h28, h30, h31, h38⟩

/-- Settles O4: every field the decoder reads lies in bits 5:0 (`field_congr`). -/
theorem parityBitsIgnored : Obligations.ParityBitsIgnored := by
  intro p q hp hq h
  have hcmd : cmdField p = cmdField q := field_congr (h 0 (by omega)) (by decide)
  have hins : insField p = insField q := field_congr (h 1 (by omega)) (by decide)
  have hdata : decodeCdg p = decodeCdg q := decodeCdg_congr (fun k hk => h (4 + k) (by omega)) hins
  rw [decode, decode, hp, hq, hcmd, hdata]

/-- Settles O5, by the operands of a decoded preset. -/
theorem presetOperandPlaces : Obligations.PresetOperandPlaces := by
  intro pkt c r
  refine ⟨fun h => ?_, fun h => ?_⟩
  · obtain ⟨rfl, rfl⟩ := operands_of_memoryPreset h
    exact ⟨toNat_low_field _ 4, toNat_low_field _ 4⟩
  · obtain rfl := operand_of_borderPreset h
    exact toNat_low_field _ 4

/-- Settles O7, by the operands of a decoded scroll. -/
theorem scrollOperandPlaces : Obligations.ScrollOperandPlaces := by
  intro pkt c h ho v vo
  refine ⟨fun hd => ?_, fun hd => ?_⟩
  · obtain rfl := color_of_scrollPreset hd
    exact toNat_low_field _ 4
  · obtain ⟨rfl, rfl, rfl, rfl⟩ := operands_of_scroll hd
    rw [HCmd.ofBits_eq_getD, VCmd.ofBits_eq_getD, toNat_field _ 4 2, toNat_field _ 4 2]
    exact ⟨rfl, toNat_low_field _ 3, rfl, toNat_low_field _ 4⟩

/-- Settles O8, by the colours of a decoded Load Colors. -/
theorem colorOperandPlaces : Obligations.ColorOperandPlaces := by
  intro pkt colors h k
  obtain rfl := operands_of_loadColors h
  have hsecond : dataByte pkt (2 * k + 1) = pkt.getD (5 + 2 * k) 0 := by
    rw [dataByte, pktByte]; congr 1; omega
  have hcolor : (payloadColors pkt)[k] = payloadColor pkt k := tabulate_getElem 8 _ k k.isLt
  rw [hcolor, payloadColor, hsecond, toNat_append_pair, toNat_field _ 4 2]
  exact ⟨toNat_field _ 2 4, congrArg (· * 4 + _) (toNat_low_field _ 2), toNat_low_field _ 4⟩

/-- Settles O1: the decoder evaluated on the four words. -/
theorem writtenOutPacketsDecode : Obligations.WrittenOutPacketsDecode := by
  unfold Obligations.WrittenOutPacketsDecode
  decide

/-- Settles O2: only the command field tells a packet of the other subcodes, and it has no effect before the end of
its step. -/
theorem cdgPacketIffCommandField : Obligations.CdgPacketIffCommandField := by
  intro pkt hl
  refine ⟨?_, fun h s => packetStep_of_other hl (mt (cmdField_eq_iff pkt).2 h) s⟩
  rw [cmdField_eq_iff]
  exact ⟨fun h => not_not.1 (mt (decode_of_other hl) h), fun hc h => cmdField_of_notCdg h hc⟩

/-- Settles O30: the step is the packet step of a packet that is not CD+G. -/
theorem otherSubcodePacketIsSkipped : Obligations.OtherSubcodePacketIsSkipped := by
  intro s pkt href hrun hpos hfetch hmask
  obtain ⟨hl, -⟩ := Memory.readBytes_eq_some hfetch
  rw [step_running href hrun, processStep_packet hpos hfetch,
    packetStep_of_other hl (mt (cmdField_eq_iff pkt).2 hmask)]
  rfl

end Sys2Proof

namespace Sys2Proof.Machine

/-! SUPPORT. The packet that a step fetches and executes, and what its packet step can change, for the statements of
40_packet_dispatch.md. -/

/-- While `process` runs and a packet is left, a step is the packet step of the packet at POSITION (R100). -/
theorem step_packet {s : State} {pkt : List Byte} (href : s.refused = false) (hrun : s.running = true)
    (hpos : s.position < s.inputLen / 24) (hfetch : s.fetch = some pkt) : step s = packetStep pkt s := by
  rw [step_running href hrun, processStep_packet hpos hfetch]

/-- Every complete packet of a held input can be fetched, and is the 24 bytes from offset 24 * POSITION (R51, R57). -/
theorem fetch_ofBytes {s : State} {bytes : List Byte} (hinput : s.input = Memory.ofBytes bytes)
    (hlen : s.inputLen = bytes.length) (hpos : s.position < s.inputLen / 24) :
    ∃ pkt, s.fetch = some pkt ∧ pkt.length = 24 ∧ ∀ i, i < 24 → pkt[i]? = bytes[24 * s.position + i]? := by
  obtain ⟨pkt, hfetch⟩ := s.input.readBytes_isSome (24 * s.position) 24 fun k _ hk => by
    rw [hinput, Memory.read_ofBytes, List.getElem?_eq_getElem (by omega), Option.isSome_some]
  obtain ⟨hl, hbyte⟩ := Memory.readBytes_eq_some hfetch
  exact ⟨pkt, hfetch, hl, fun i hi => by rw [hbyte i hi, hinput, Memory.read_ofBytes]⟩

/-- A packet step that is not refused advances the position by exactly 1 (R106). -/
theorem packetStep_position {pkt : List Byte} {s t : State} (h : packetStep pkt s = .next t)
    (ht : t.refused = false) : t.position = s.position + 1 := by
  rcases packetStep_collects h with rfl | ⟨u, hf, hpos, -⟩
  · cases ht
  · rw [finishPacket_frame hf, ← hpos]

/-- The packet step of a packet that is not CD+G is only the end of a packet step (R102). -/
theorem finishPacket_of_packetStep_other {pkt : List Byte} {s t : State} (hc : cmdField pkt ≠ 9)
    (h : packetStep pkt s = .next t) : finishPacket s = .next t := by
  cases hd : decode pkt with
  | instr i => exact absurd (cmdField_of_instr hd) hc
  | reserved c => exact absurd (cmdField_of_reserved hd) hc
  | notCdg => rwa [packetStep_notCdg hd] at h
  | notAPacket => simp [packetStep, hd] at h

end Sys2Proof.Machine

namespace Sys2Proof.Machine

/-! SUPPORT. The statements of 40_packet_dispatch.md, settled. -/

/-- Settles O31: the fetch reads the packet's own bytes, and no packet step writes the position but by its
increment. -/
theorem packetsAreFetchedInOrder : Obligations.PacketsAreFetchedInOrder := by
  intro bytes s hinput hlen hpos href hrun
  obtain ⟨pkt, hfetch, hl, hbyte⟩ := fetch_ofBytes hinput hlen hpos
  have hstep : step s = packetStep pkt s := step_packet href hrun hpos hfetch
  refine ⟨pkt, hl, hbyte, hstep, fun t ht htref => ?_⟩
  rw [hstep] at ht
  obtain ⟨-, -, -, -, hin, hinLen, -, hrunning, -⟩ := packetStep_keeps ht
  exact ⟨packetStep_position ht htref, hin, hinLen, hrunning.trans hrun⟩

/-- Settles O34: the end of a packet step, which is all that a packet of another kind does, writes none of the
registers named. -/
theorem onlyCdgPacketsChangeState : Obligations.OnlyCdgPacketsChangeState := by
  intro pkt s t h
  obtain ⟨hcfg, htempo, hopen, hproc, hin, hinLen, htrunc, -⟩ := packetStep_keeps h
  refine ⟨?_, htempo, hopen, hproc, hin, hinLen, htrunc, hcfg⟩
  rw [cmdField_eq_iff]
  contrapose
  intro hc
  rcases finishPacket_next (finishPacket_of_packetStep_other hc h) with ⟨-, -, rfl⟩ | ⟨-, rfl⟩
  · simp
  · simp

/-- Settles O28, by what `exec` answers. -/
theorem stepRunsDecodedInstruction : Obligations.StepRunsDecodedInstruction := by
  intro s pkt i href hrun hpos hfetch hd
  rw [step_packet href hrun hpos hfetch, packetStep_instr hd, instrStep]
  cases exec i s with
  | next t => rfl
  | fault f => rfl
  | refused r => rfl

/-- Settles O29: the packet step of a reserved code clears LAST_MP and ends. -/
theorem reservedCodeClearsPresetFlag : Obligations.ReservedCodeClearsPresetFlag := by
  intro s pkt code href hrun hpos hfetch hd
  rw [step_packet href hrun hpos hfetch, packetStep_reserved hd]
  rfl

end Sys2Proof.Machine

namespace Sys2Proof.Machine

/-! SUPPORT. What the two presets answer, and the packet step of an instruction with the offsets in range, for the
statements of 41_preset.md. -/

theorem exec_memoryPreset_suppressed {rep : BitVec 4} {s : State} (h : s.lastMp = true ∧ rep ≠ 0) (color : BitVec 4) :
    exec (.memoryPreset color rep) s = .next s :=
  execMemoryPreset_suppressed ((presetSuppressed_eq_true rep s).2 h) color

theorem exec_memoryPreset_fills {rep : BitVec 4} {s : State} (h : ¬(s.lastMp = true ∧ rep ≠ 0)) (color : BitVec 4) :
    exec (.memoryPreset color rep) s = .next (s.setFb (framebufferOf fun _ _ => color)).markUpdate :=
  execMemoryPreset_fills (Bool.eq_false_iff.2 (mt (presetSuppressed_eq_true rep s).1 h)) color

/-- The border is the rows 0..11 and 204..215 and the columns 0..5 and 294..299 (R22). -/
theorem inBorder_eq_true (x y : Nat) : inBorder x y = true ↔ y < 12 ∨ 204 ≤ y ∨ x < 6 ∨ 294 ≤ x := by
  simp [inBorder, or_assoc]

/-- With the offsets in range, the packet step of an instruction that takes effect completes. It keeps the framebuffer
that the effect left, and records in LAST_MP whether the instruction is a Memory Preset (R104, R105). -/
theorem instrStep_of_range {i : Instr} {s u : State} (he : exec i s = .next u) (hh : s.hoff.toNat ≤ 5)
    (hv : s.voff.toNat ≤ 11) :
    ∃ t, instrStep i s = .next t ∧ t.fb = u.fb ∧ t.lastMp = i.isMemoryPreset := by
  obtain ⟨huh, huv⟩ := exec_offsets he hh hv
  have hf := finishPacket_of_range (s := u.setLastMp i.isMemoryPreset) huh huv
  exact ⟨_, (instrStep_next he).trans hf, by rw [finishPacket_frame hf]; rfl, by rw [finishPacket_frame hf]; rfl⟩

end Sys2Proof.Machine

namespace Sys2Proof.Machine

/-! SUPPORT. The statements of 41_preset.md, settled. -/

/-- Settles O10, by the two answers of a Memory Preset. -/
theorem memoryPresetFillsOrIsSuppressed : Obligations.MemoryPresetFillsOrIsSuppressed := by
  intro color rep s
  exact ⟨fun h => exec_memoryPreset_suppressed h color,
    fun h => ⟨_, exec_memoryPreset_fills h color, fun _ _ hx hy => pixelAt_framebufferOf _ hx hy⟩⟩

/-- Settles O11: the new framebuffer chooses by `inBorder`, which is R131's condition. -/
theorem borderPresetFillsBorderOnly : Obligations.BorderPresetFillsBorderOnly := by
  intro color s
  refine ⟨_, rfl, fun x y hx hy => ?_⟩
  rw [State.setFb_fb, pixelAt_framebufferOf _ hx hy]
  simp only [inBorder_eq_true]

/-- Settles O12: the first preset fills and leaves LAST_MP set, which suppresses the second. -/
theorem consecutivePresetsFillOnce : Obligations.ConsecutivePresetsFillOnce := by
  intro c1 c2 r1 r2 s hfirst hr2 hh hv
  have hfills : ¬(s.lastMp = true ∧ r1 ≠ 0) := by
    rintro ⟨hmp, hr1⟩
    rcases hfirst with h | h
    · simp [hmp] at h
    · exact hr1 h
  obtain ⟨t, hstep, hfb, hmp⟩ := instrStep_of_range (exec_memoryPreset_fills hfills c1) hh hv
  refine ⟨t, hstep, fun x y hx hy => ?_, exec_memoryPreset_suppressed ⟨hmp, hr2⟩ c2⟩
  rw [hfb]
  exact pixelAt_framebufferOf _ hx hy

end Sys2Proof.Machine

namespace Sys2Proof

/-! SUPPORT. The operands of a decoded tile instruction, for the statements of 42_tile_block.md. -/

open Sys2Proof.Machine

theorem operands_of_tile {pkt : List Byte} {color0 color1 : BitVec 4} {row : BitVec 5} {column : BitVec 6}
    {rows : Vector (BitVec 6) 12} (h : decode pkt = .instr (.tileNormal color0 color1 row column rows) ∨
      decode pkt = .instr (.tileXor color0 color1 row column rows)) :
    color0 = (dataByte pkt 0).extractLsb' 0 4 ∧ color1 = (dataByte pkt 1).extractLsb' 0 4 ∧
      row = (dataByte pkt 2).extractLsb' 0 5 ∧ column = (dataByte pkt 3).extractLsb' 0 6 ∧ rows = tileRows pkt := by
  rcases h with h | h <;> have hd := decodeCdg_of_instr h
  · rw [decodeCdg_tileNormal (insField_of_instr h)] at hd
    cases hd
    exact ⟨rfl, rfl, rfl, rfl, rfl⟩
  · rw [decodeCdg_tileXor (insField_of_instr h)] at hd
    cases hd
    exact ⟨rfl, rfl, rfl, rfl, rfl⟩

/-- Pixel row i is bits 5:0 of data[4 + i], byte 8 + i of the packet (R72, R76). -/
theorem toNat_tileRows (pkt : List Byte) (i : Fin 12) :
    (tileRows pkt)[i].toNat = (pkt.getD (8 + i) 0).toNat % 64 := by
  have hrow : (tileRows pkt)[i] = (dataByte pkt (4 + i)).extractLsb' 0 6 := tabulate_getElem 12 _ i i.isLt
  rw [hrow, toNat_low_field, dataByte, pktByte, ← Nat.add_assoc]
  rfl

end Sys2Proof

namespace Sys2Proof.Machine

/-! SUPPORT. What both tile instructions draw and leave, for the statements of 42_tile_block.md. -/

section
variable (combine : Pixel → Pixel → Pixel) (color0 color1 : Pixel) {row : BitVec 5} {column : BitVec 6}
  (rows : Vector (BitVec 6) 12)

theorem exec_tileNormal (s : State) : exec (.tileNormal color0 color1 row column rows) s =
    tileBlock (fun _ chosen => chosen) color0 color1 row column rows s := rfl

theorem exec_tileXor (s : State) : exec (.tileXor color0 color1 row column rows) s =
    tileBlock (fun old chosen => old ^^^ chosen) color0 color1 row column rows s := rfl

theorem tileInRange_eq_false : tileInRange row column = false ↔ 18 ≤ row.toNat ∨ 50 ≤ column.toNat := by
  rw [← Bool.not_eq_true, tileInRange_eq_true, not_and_or, not_lt, not_lt]

/-- For a pixel of the tile, the chosen colour reads a pixel row that exists (R142). -/
theorem chosenColor_fin (i : Fin 12) (j : Nat) :
    chosenColor color0 color1 rows i j = if rows[i].getLsbD (5 - j) then color1 else color0 := by
  simp [chosenColor, tileBit]

/-- A tile instruction on the framebuffer: the tile's 72 pixels and all others (R141, R142, R145). -/
theorem tileBlock_draws (s : State) (hr : row.toNat < 18) (hc : column.toNat < 50) :
    ∃ fb, tileBlock combine color0 color1 row column rows s = .next (s.setFb fb).markUpdate ∧
      (∀ (i : Fin 12) (j : Fin 6), pixelAt fb (column.toNat * 6 + j) (row.toNat * 12 + i) =
        combine (pixelAt s.fb (column.toNat * 6 + j) (row.toNat * 12 + i))
          (if rows[i].getLsbD (5 - j) then color1 else color0)) ∧
      ∀ x y, x < 300 → y < 216 →
        ¬(column.toNat * 6 ≤ x ∧ x < column.toNat * 6 + 6 ∧ row.toNat * 12 ≤ y ∧ y < row.toNat * 12 + 12) →
        pixelAt fb x y = pixelAt s.fb x y := by
  have hin : tileInRange row column = true := (tileInRange_eq_true row column).2 ⟨hr, hc⟩
  refine ⟨_, tileBlock_inRange combine color0 color1 rows s hin, fun i j => ?_, fun x y hx hy hout => ?_⟩
  · rw [pixelAt_drawTile_inside combine color0 color1 rows s.fb hin i.isLt j.isLt, chosenColor_fin]
  · refine pixelAt_drawTile_outside combine color0 color1 rows s.fb hx hy (Bool.eq_false_iff.2 fun h => hout ?_)
    rwa [inTile_eq_true, and_assoc] at h

/-- A tile instruction that completes has drawn its tile, or only marked the update (R141, R146). -/
theorem tileBlock_next {s t : State} (h : tileBlock combine color0 color1 row column rows s = .next t) :
    t = (s.setFb (drawTile combine color0 color1 row column rows s.fb)).markUpdate ∨ t = s.markUpdate := by
  cases hin : tileInRange row column with
  | true =>
    rw [tileBlock_inRange combine color0 color1 rows s hin] at h
    cases h
    exact .inl rfl
  | false =>
    cases hp : s.cfg.tileOobPolicy with
    | skip =>
      rw [tileBlock_skip combine color0 color1 rows hin hp] at h
      cases h
      exact .inr rfl
    | refuse =>
      rw [tileBlock_refuse combine color0 color1 rows hin hp] at h
      cases h

/-- A pixel that a tile instruction changes lies in its tile (R145). -/
theorem inTile_of_tileBlock_changes {s t : State}
    (h : tileBlock combine color0 color1 row column rows s = .next t) {x y : Nat} (hx : x < 300) (hy : y < 216)
    (hne : pixelAt t.fb x y ≠ pixelAt s.fb x y) : inTile row column x y = true := by
  rcases tileBlock_next combine color0 color1 rows h with rfl | rfl
  · contrapose! hne
    exact pixelAt_drawTile_outside combine color0 color1 rows s.fb hx hy (Bool.eq_false_iff.2 hne)
  · exact absurd rfl hne

/-- Drawing a tile twice restores a framebuffer if combining twice with one colour restores the pixel. -/
theorem drawTile_drawTile (hcombine : ∀ old chosen, combine (combine old chosen) chosen = old) (fb : Framebuffer) :
    drawTile combine color0 color1 row column rows (drawTile combine color0 color1 row column rows fb) = fb := by
  refine framebuffer_ext fun x y hx hy => ?_
  cases h : inTile row column x y with
  | true => simp only [drawTile, pixelAt_framebufferOf _ hx hy, h, if_true, hcombine]
  | false => rw [pixelAt_drawTile_outside _ _ _ _ _ hx hy h, pixelAt_drawTile_outside _ _ _ _ _ hx hy h]

/-- A tile instruction that is not refused completes twice in a row, and marks the update. If combining twice with one
colour restores the pixel, the framebuffer is as before (R144, R146). -/
theorem tileBlock_twice (hcombine : ∀ old chosen, combine (combine old chosen) chosen = old) {s : State}
    (h : s.cfg.tileOobPolicy = .skip ∨ tileInRange row column = true) :
    ∃ t u, tileBlock combine color0 color1 row column rows s = .next t ∧
      tileBlock combine color0 color1 row column rows t = .next u ∧ u.fb = s.fb ∧ u.needsUpdate = true := by
  cases hin : tileInRange row column with
  | true =>
    exact ⟨_, _, tileBlock_inRange combine color0 color1 rows s hin,
      tileBlock_inRange combine color0 color1 rows _ hin,
      drawTile_drawTile combine color0 color1 rows hcombine s.fb, rfl⟩
  | false =>
    have hp : s.cfg.tileOobPolicy = .skip := h.resolve_right (Bool.eq_false_iff.1 hin)
    exact ⟨_, _, tileBlock_skip combine color0 color1 rows hin hp,
      tileBlock_skip combine color0 color1 rows hin hp, rfl, rfl⟩

end

end Sys2Proof.Machine

namespace Sys2Proof.Machine

/-! SUPPORT. The statements of 42_tile_block.md, settled. -/

/-- Settles O6, by the operands of a decoded tile instruction. -/
theorem tileOperandPlaces : Obligations.TileOperandPlaces := by
  intro pkt c0 c1 row column rows h
  obtain ⟨rfl, rfl, rfl, rfl, rfl⟩ := operands_of_tile h
  exact ⟨toNat_low_field _ 4, toNat_low_field _ 4, toNat_low_field _ 5, toNat_low_field _ 6, toNat_tileRows pkt⟩

/-- Settles O13: Tile Normal draws with the chosen colour itself. -/
theorem tileNormalDrawsChosenColors : Obligations.TileNormalDrawsChosenColors := by
  intro c0 c1 row column rows s hr hc
  rw [exec_tileNormal]
  exact tileBlock_draws _ c0 c1 rows s hr hc

/-- Settles O14: Tile XOR draws with the old pixel XOR the chosen colour. -/
theorem tileXorCombinesChosenColors : Obligations.TileXorCombinesChosenColors := by
  intro c0 c1 row column rows s hr hc
  rw [exec_tileXor]
  exact tileBlock_draws _ c0 c1 rows s hr hc

/-- Settles O16: a changed pixel lies in the tile, and the tiles of the framebuffer end at column 299 and row 215. -/
theorem tileFootprint : Obligations.TileFootprint := by
  refine ⟨fun c0 c1 row column rows s t h x y hx hy hne => ?_, fun row column i j hr hc => ?_⟩
  · have hin : inTile row column x y = true := by
      rw [exec_tileNormal, exec_tileXor] at h
      rcases h with h | h <;> exact inTile_of_tileBlock_changes _ c0 c1 rows h hx hy hne
    rwa [inTile_eq_true, and_assoc] at hin
  · omega

/-- Settles O17: XOR with one colour twice restores the pixel, and a tile off the framebuffer writes none. -/
theorem tileXorTwiceRestores : Obligations.TileXorTwiceRestores := by
  intro c0 c1 row column rows s h
  rw [← tileInRange_eq_true] at h
  have hxor (old chosen : Pixel) : old ^^^ chosen ^^^ chosen = old := by
    rw [BitVec.xor_assoc, BitVec.xor_self, BitVec.xor_zero]
  simp only [exec_tileXor]
  exact tileBlock_twice _ c0 c1 rows hxor h

/-- Settles O15, by the two answers for a tile off the framebuffer. -/
theorem tileOffFramebuffer : Obligations.TileOffFramebuffer := by
  intro c0 c1 row column rows s h
  have hout : tileInRange row column = false := tileInRange_eq_false.2 h
  rw [exec_tileNormal, exec_tileXor]
  exact ⟨fun hp => ⟨tileBlock_skip _ c0 c1 rows hout hp, tileBlock_skip _ c0 c1 rows hout hp⟩,
    fun hp => ⟨tileBlock_refuse _ c0 c1 rows hout hp, tileBlock_refuse _ c0 c1 rows hout hp⟩⟩

end Sys2Proof.Machine

namespace Sys2Proof.Machine

/-! SUPPORT. What a scroll answers, and what its two coarse shifts read as together, for the statements of
43_scroll.md. -/

/-! ### The answers -/

theorem exec_scrollPreset (color : BitVec 4) (h : HCmd) (ho : BitVec 3) (v : VCmd) (vo : BitVec 4) (s : State) :
    exec (.scrollPreset color h ho v vo) s = scroll (.preset color) h ho v vo s := rfl

theorem exec_scrollCopy (h : HCmd) (ho : BitVec 3) (v : VCmd) (vo : BitVec 4) (s : State) :
    exec (.scrollCopy h ho v vo) s = scroll .copy h ho v vo s := rfl

theorem scrollCmdsDefined_eq_true {h : HCmd} {v : VCmd} :
    scrollCmdsDefined h v = true ↔ h ≠ .three ∧ v ≠ .three := by
  simp [scrollCmdsDefined]

theorem scrollCmdsDefined_eq_false {h : HCmd} {v : VCmd} :
    scrollCmdsDefined h v = false ↔ h = .three ∨ v = .three := by
  rw [← Bool.not_eq_true, scrollCmdsDefined_eq_true, not_and_or, not_ne_iff, not_ne_iff]

theorem offsetsInRange_eq_true {ho : BitVec 3} {vo : BitVec 4} :
    offsetsInRange ho vo = true ↔ ho.toNat ≤ 5 ∧ vo.toNat ≤ 11 := by
  simp [offsetsInRange]

theorem offsetsInRange_eq_false {ho : BitVec 3} {vo : BitVec 4} :
    offsetsInRange ho vo = false ↔ 5 < ho.toNat ∨ 11 < vo.toNat := by
  rw [← Bool.not_eq_true, offsetsInRange_eq_true, not_and_or, not_le, not_le]

section
variable (mode : ScrollMode) {h : HCmd} {ho : BitVec 3} {v : VCmd} {vo : BitVec 4} {s : State}

/-- A scroll that no `refuse` setting turns away shifts, writes the clamped offsets and marks the update (R170). -/
theorem scroll_eq_next (hc : s.cfg.scrollCmd3Policy = .noShift ∨ (h ≠ .three ∧ v ≠ .three))
    (hr : s.cfg.offsetPolicy = .clamp ∨ (ho.toNat ≤ 5 ∧ vo.toNat ≤ 11)) :
    scroll mode h ho v vo s =
      .next (((s.setFb (shiftV mode v (shiftH mode h s.fb))).setOffsets (clampHOffset ho)
        (clampVOffset vo)).markUpdate) := by
  rw [← scrollCmdsDefined_eq_true] at hc
  rw [← offsetsInRange_eq_true] at hr
  exact scroll_of_no_refusal (scrollRefusal_eq_none h ho v vo hc hr)

/-- A reserved direction is refused under its `refuse` setting, whatever the offsets (R168). -/
theorem scroll_refused_cmd3 (hp : s.cfg.scrollCmd3Policy = .refuse) (hc : h = .three ∨ v = .three) :
    scroll mode h ho v vo s = .refused .scrollCmd3 :=
  scroll_of_refusal (if_pos ⟨hp, scrollCmdsDefined_eq_false.2 hc⟩)

/-- An offset above its maximum is refused under its `refuse` setting, unless the direction is refused first (R169). -/
theorem scroll_refused_offset (hp : s.cfg.offsetPolicy = .refuse) (hr : 5 < ho.toNat ∨ 11 < vo.toNat)
    (hc : s.cfg.scrollCmd3Policy = .noShift ∨ (h ≠ .three ∧ v ≠ .three)) :
    scroll mode h ho v vo s = .refused .offsetOutOfRange := by
  have hcmd : ¬(s.cfg.scrollCmd3Policy = .refuse ∧ scrollCmdsDefined h v = false) := by
    rintro ⟨hrefuse, hthree⟩
    rcases hc with hc | hc
    · cases hc.symm.trans hrefuse
    · cases (scrollCmdsDefined_eq_true.2 hc).symm.trans hthree
  exact scroll_of_refusal ((if_neg hcmd).trans (if_pos ⟨hp, offsetsInRange_eq_false.2 hr⟩))

/-- A scroll that completes leaves the offsets in range, whatever they were (R169, R172). -/
theorem scroll_offsets {t : State} (ht : scroll mode h ho v vo s = .next t) :
    t.hoff.toNat ≤ 5 ∧ t.voff.toNat ≤ 11 := by
  rcases scroll_cases mode h ho v vo s with ⟨_, e⟩ | ⟨_, -, e⟩
  · cases e.symm.trans ht
    exact ⟨clampHOffset_le ho, clampVOffset_le vo⟩
  · cases e.symm.trans ht

end

/-! ### Both shifts together -/

section
variable (fb : Framebuffer) (h : HCmd) (v : VCmd) {x y : Nat}

theorem pixelAt_shiftV_shiftH_copy (hx : x < 300) (hy : y < 216) :
    pixelAt (shiftV .copy v (shiftH .copy h fb)) x y = pixelAt fb (copySourceX h x) (copySourceY v y) := by
  rw [pixelAt_shiftV_copy _ v hx hy, pixelAt_shiftH_copy fb h hx (copySourceY_lt v hy)]

theorem pixelAt_shiftH_shiftV_copy (hx : x < 300) (hy : y < 216) :
    pixelAt (shiftH .copy h (shiftV .copy v fb)) x y = pixelAt fb (copySourceX h x) (copySourceY v y) := by
  rw [pixelAt_shiftH_copy _ h hx hy, pixelAt_shiftV_copy fb v (copySourceX_lt h hx) hy]

/-- The pixel a Scroll Preset writes where the source column is `a` and the source row is `b`: the colour where either
is missing (R162). -/
def presetPixel (c : Pixel) (a b : Option Nat) : Pixel :=
  match a, b with
  | some a, some b => pixelAt fb a b
  | _, _ => c

theorem pixelAt_shiftV_shiftH_preset (c : Pixel) (hx : x < 300) (hy : y < 216) :
    pixelAt (shiftV (.preset c) v (shiftH (.preset c) h fb)) x y =
      presetPixel fb c (presetSourceX h x) (presetSourceY v y) := by
  rw [pixelAt_shiftV_preset c _ v hx hy]
  cases hrow : presetSourceY v y with
  | none => cases presetSourceX h x <;> rfl
  | some b =>
    refine (pixelAt_shiftH_preset c fb h hx (presetSourceY_lt hy hrow)).trans ?_
    cases presetSourceX h x <;> rfl

theorem pixelAt_shiftH_shiftV_preset (c : Pixel) (hx : x < 300) (hy : y < 216) :
    pixelAt (shiftH (.preset c) h (shiftV (.preset c) v fb)) x y =
      presetPixel fb c (presetSourceX h x) (presetSourceY v y) := by
  rw [pixelAt_shiftH_preset c _ h hx hy]
  cases hcol : presetSourceX h x with
  | none => rfl
  | some a =>
    refine (pixelAt_shiftV_preset c fb v (presetSourceX_lt hx hcol) hy).trans ?_
    cases presetSourceY v y <;> rfl

/-- The two coarse shifts commute (R172): in either order a pixel has the same source. -/
theorem shiftV_shiftH_comm (mode : ScrollMode) :
    shiftV mode v (shiftH mode h fb) = shiftH mode h (shiftV mode v fb) := by
  refine framebuffer_ext fun x y hx hy => ?_
  cases mode with
  | copy => rw [pixelAt_shiftV_shiftH_copy fb h v hx hy, pixelAt_shiftH_shiftV_copy fb h v hx hy]
  | preset c => rw [pixelAt_shiftV_shiftH_preset fb h v c hx hy, pixelAt_shiftH_shiftV_preset fb h v c hx hy]

end

/-! ### Rotations that restore the framebuffer -/

section
variable (fb : Framebuffer)

theorem copySourceX_opposite {h h' : HCmd} (hop : (h, h') = (.right, .left) ∨ (h, h') = (.left, .right)) {x : Nat}
    (hx : x < 300) : copySourceX h (copySourceX h' x) = x := by
  rcases hop with hop | hop <;> cases hop <;> simp only [copySourceX] <;> omega

theorem copySourceY_opposite {v v' : VCmd} (hop : (v, v') = (.down, .up) ∨ (v, v') = (.up, .down)) {y : Nat}
    (hy : y < 216) : copySourceY v (copySourceY v' y) = y := by
  rcases hop with hop | hop <;> cases hop <;> simp only [copySourceY] <;> omega

/-- Opposite horizontal rotations cancel (R172). -/
theorem shiftH_copy_opposite {h h' : HCmd} (hop : (h, h') = (.right, .left) ∨ (h, h') = (.left, .right)) :
    shiftH .copy h' (shiftH .copy h fb) = fb := by
  refine framebuffer_ext fun x y hx hy => ?_
  rw [pixelAt_shiftH_copy _ h' hx hy, pixelAt_shiftH_copy fb h (copySourceX_lt h' hx) hy, copySourceX_opposite hop hx]

/-- Opposite vertical rotations cancel (R172). -/
theorem shiftV_copy_opposite {v v' : VCmd} (hop : (v, v') = (.down, .up) ∨ (v, v') = (.up, .down)) :
    shiftV .copy v' (shiftV .copy v fb) = fb := by
  refine framebuffer_ext fun x y hx hy => ?_
  rw [pixelAt_shiftV_copy _ v' hx hy, pixelAt_shiftV_copy fb v hx (copySourceY_lt v' hy), copySourceY_opposite hop hy]

/-- After n rotations right by 6, column x reads 6 n columns to the left, around the framebuffer. -/
theorem pixelAt_iterate_shiftRight6 (n : Nat) {x y : Nat} (hx : x < 300) (hy : y < 216) :
    pixelAt ((shiftRight6 .copy)^[n] fb) x y = pixelAt fb ((x + 294 * n) % 300) y := by
  induction n generalizing x with
  | zero => rw [Function.iterate_zero_apply, Nat.mul_zero, Nat.add_zero, Nat.mod_eq_of_lt hx]
  | succ n ih =>
    rw [Function.iterate_succ_apply', ← shiftH_right, pixelAt_shiftH_copy _ .right hx hy,
      ih (copySourceX_lt .right hx)]
    congr 1
    simp only [copySourceX]
    omega

/-- After n rotations down by 12, row y reads 12 n rows up, around the framebuffer. -/
theorem pixelAt_iterate_shiftDown12 (n : Nat) {x y : Nat} (hx : x < 300) (hy : y < 216) :
    pixelAt ((shiftDown12 .copy)^[n] fb) x y = pixelAt fb x ((y + 204 * n) % 216) := by
  induction n generalizing y with
  | zero => rw [Function.iterate_zero_apply, Nat.mul_zero, Nat.add_zero, Nat.mod_eq_of_lt hy]
  | succ n ih =>
    rw [Function.iterate_succ_apply', ← shiftV_down, pixelAt_shiftV_copy _ .down hx hy,
      ih (copySourceY_lt .down hy)]
    congr 1
    simp only [copySourceY]
    omega

end

end Sys2Proof.Machine

namespace Sys2Proof.Machine

/-! SUPPORT. The statements of 43_scroll.md, settled. -/

/-- Settles O18, by the sources of a Scroll Preset's two shifts. -/
theorem scrollPresetShiftsAndFills : Obligations.ScrollPresetShiftsAndFills := by
  intro color h ho v vo s hc hr
  exact ⟨_, _, _, scroll_eq_next (.preset color) hc hr, clampHOffset_toNat ho, clampVOffset_toNat vo,
    fun x y hx hy => pixelAt_shiftV_shiftH_preset s.fb h v color hx hy⟩

/-- Settles O19, by the sources of a Scroll Copy's two shifts. -/
theorem scrollCopyRotates : Obligations.ScrollCopyRotates := by
  intro h ho v vo s hc hr
  exact ⟨_, _, _, scroll_eq_next .copy hc hr, clampHOffset_toNat ho, clampVOffset_toNat vo,
    fun x y hx hy => pixelAt_shiftV_shiftH_copy s.fb h v hx hy⟩

/-- Settles O21: opposite rotations cancel, both orders of the shifts read the same sources, and a scroll writes
clamped offsets. -/
theorem scrollRoundTripCommuteAndRange : Obligations.ScrollRoundTripCommuteAndRange := by
  refine ⟨fun h h' v v' ho ho' vo vo' s hr hop => ?_, fun mode h v fb => shiftV_shiftH_comm fb h v mode,
    fun color h ho v vo s t ht => ht.elim (scroll_offsets _) (scroll_offsets _)⟩
  have hdefined : (h ≠ .three ∧ v ≠ .three) ∧ h' ≠ .three ∧ v' ≠ .three := by
    rcases hop with ⟨hop | hop, rfl, rfl⟩ | ⟨hop | hop, rfl, rfl⟩ <;> cases hop <;> decide
  obtain ⟨hcmds, hcmds'⟩ := hdefined
  refine ⟨_, _, scroll_eq_next .copy (.inr hcmds) (hr.imp_right fun ⟨a, b, _, _⟩ => ⟨a, b⟩),
    scroll_eq_next .copy (.inr hcmds') (hr.imp_right fun ⟨_, _, a, b⟩ => ⟨a, b⟩), ?_⟩
  rcases hop with ⟨hop, rfl, rfl⟩ | ⟨hop, rfl, rfl⟩
  · exact shiftH_copy_opposite s.fb hop
  · exact shiftV_copy_opposite s.fb hop

/-- Settles O22: 50 * 6 and 18 * 12 are once around the framebuffer. -/
theorem fullRotationRestores : Obligations.FullRotationRestores := by
  intro fb
  constructor
  · refine framebuffer_ext fun x y hx hy => ?_
    rw [pixelAt_iterate_shiftRight6 fb 50 hx hy, show (x + 294 * 50) % 300 = x by omega]
  · refine framebuffer_ext fun x y hx hy => ?_
    rw [pixelAt_iterate_shiftDown12 fb 18 hx hy, show (y + 204 * 18) % 216 = y by omega]

/-- Settles O20, by the two checks a scroll makes before it shifts. -/
theorem scrollRefusedByPolicy : Obligations.ScrollRefusedByPolicy := by
  intro color h ho v vo s
  rw [exec_scrollPreset, exec_scrollCopy]
  exact ⟨fun hp hc => ⟨scroll_refused_cmd3 _ hp hc, scroll_refused_cmd3 _ hp hc⟩,
    fun hp hr hc => ⟨scroll_refused_offset _ hp hr hc, scroll_refused_offset _ hp hr hc⟩⟩

end Sys2Proof.Machine

namespace Sys2Proof.Machine

/-! SUPPORT. Expanded colours, and what a Load Colors writes and answers in either half of the palette, for the
statements of 44_palette.md. -/

/-! ### Colour expansion -/

theorem toNat_append_eq_mul_add {m n : Nat} (x : BitVec m) (y : BitVec n) :
    (x ++ y).toNat = x.toNat * 2 ^ n + y.toNat := by
  rw [BitVec.toNat_append, ← Nat.shiftLeft_add_eq_or_of_lt y.isLt, Nat.shiftLeft_eq]

theorem expandChannel_toNat (c : BitVec 4) : (expandChannel c).toNat = c.toNat * 16 + c.toNat := by
  revert c; decide

/-! ### One half of the palette, loaded -/

section
variable {base : Nat} (hb : base ≤ 8) (colors : Vector Rgb12 8)

theorem palEntry_loadPalette_kept (pal : Palette) {i : Pixel} (hi : ¬(base ≤ i.toNat ∧ i.toNat < base + 8)) :
    palEntry (loadPalette base colors pal) i = palEntry pal i := by
  rw [palEntry_loadPalette, dif_neg hi]

theorem exists_eq_ofNat_base_add {i : Pixel} (hi : base ≤ i.toNat ∧ i.toNat < base + 8) :
    ∃ k : Fin 8, i = BitVec.ofNat 4 (base + k) :=
  ⟨⟨i.toNat - base, by omega⟩, by rw [Nat.add_sub_cancel' hi.1, BitVec.ofNat_toNat, BitVec.setWidth_eq]⟩

/-- Changed or not, the palette after a load is the loaded one (R192). -/
theorem loadColors_pal (s : State) : (loadColors base colors s).pal = loadPalette base colors s.pal := by
  unfold loadColors
  split <;> rfl

include hb

theorem toNat_ofNat_base_add (k : Fin 8) : (BitVec.ofNat 4 (base + k)).toNat = base + k := by
  rw [BitVec.toNat_ofNat, Nat.mod_eq_of_lt (by omega)]

theorem palEntry_loadPalette_loaded (pal : Palette) (k : Fin 8) :
    palEntry (loadPalette base colors pal) (BitVec.ofNat 4 (base + k)) = expandColor colors[k] := by
  simp [palEntry_loadPalette, toNat_ofNat_base_add hb]

/-- A load changes no entry exactly when its half holds the expanded colours already (R192). -/
theorem colorsChange_eq_false_iff_held (pal : Palette) : colorsChange base colors pal = false ↔
    ∀ k : Fin 8, palEntry pal (BitVec.ofNat 4 (base + k)) = expandColor colors[k] := by
  rw [colorsChange_eq_false hb]
  refine ⟨fun h k => ?_, fun h => palette_ext fun i => ?_⟩
  · rw [← palEntry_loadPalette_loaded hb colors pal k, h]
  · by_cases hi : base ≤ i.toNat ∧ i.toNat < base + 8
    · obtain ⟨k, rfl⟩ := exists_eq_ofNat_base_add hi
      rw [palEntry_loadPalette_loaded hb, h k]
    · exact palEntry_loadPalette_kept colors pal hi

theorem loadColors_of_held {s : State}
    (h : ∀ k : Fin 8, palEntry s.pal (BitVec.ofNat 4 (base + k)) = expandColor colors[k]) :
    loadColors base colors s = s :=
  loadColors_of_no_change hb ((colorsChange_eq_false_iff_held hb colors s.pal).2 h)

theorem loadColors_of_differs {s : State}
    (h : ∃ k : Fin 8, palEntry s.pal (BitVec.ofNat 4 (base + k)) ≠ expandColor colors[k]) :
    loadColors base colors s = (s.setPal (loadPalette base colors s.pal)).markUpdate := by
  obtain ⟨k, hk⟩ := h
  exact loadColors_of_change (Bool.of_not_eq_false fun hc =>
    hk ((colorsChange_eq_false_iff_held hb colors s.pal).1 hc k))

/-- A second load of the same colours changes nothing (R194). -/
theorem loadColors_loadColors (s : State) :
    loadColors base colors (loadColors base colors s) = loadColors base colors s :=
  loadColors_of_held hb colors fun k => by rw [loadColors_pal, palEntry_loadPalette_loaded hb]

end

/-! ### The answers -/

section
variable (colors : Vector Rgb12 8) {s : State}

theorem exec_loadColorsLow (s : State) : exec (.loadColorsLow colors) s = .next (loadColors 0 colors s) := rfl

theorem exec_loadColorsHigh (s : State) : exec (.loadColorsHigh colors) s = .next (loadColors 8 colors s) := rfl

theorem exec_loadColorsLow_of_held
    (h : ∀ k : Fin 8, palEntry s.pal (BitVec.ofNat 4 k) = expandColor colors[k]) :
    exec (.loadColorsLow colors) s = .next s := by
  rw [exec_loadColorsLow, loadColors_of_held (Nat.zero_le 8) colors (by simpa only [Nat.zero_add] using h)]

theorem exec_loadColorsHigh_of_held
    (h : ∀ k : Fin 8, palEntry s.pal (BitVec.ofNat 4 (8 + k)) = expandColor colors[k]) :
    exec (.loadColorsHigh colors) s = .next s := by
  rw [exec_loadColorsHigh, loadColors_of_held le_rfl colors h]

end

/-- No instruction clears the update flag (R194 for Load Colors): it is as before, or marked. -/
theorem exec_keeps_needsUpdate {i : Instr} {s t : State} (h : exec i s = .next t) (hs : s.needsUpdate = true) :
    t.needsUpdate = true := by
  rw [exec_needsUpdate h, hs, Bool.true_or]

end Sys2Proof.Machine

namespace Sys2Proof.Machine

/-! SUPPORT. The statements of 44_palette.md, settled. -/

/-- Settles O24: the low half is the half from entry 0, and entries 8 to 15 lie outside it. -/
theorem loadColorsLowWritesLowHalf : Obligations.LoadColorsLowWritesLowHalf := by
  intro colors s
  refine ⟨exec_loadColorsLow_of_held colors, fun h => ⟨loadPalette 0 colors s.pal, ?_, fun k => ?_,
    fun k => palEntry_loadPalette_kept colors s.pal ?_⟩⟩
  · rw [exec_loadColorsLow, loadColors_of_differs (Nat.zero_le 8) colors (by simpa only [Nat.zero_add] using h)]
    rfl
  · simpa only [Nat.zero_add] using palEntry_loadPalette_loaded (Nat.zero_le 8) colors s.pal k
  · rw [toNat_ofNat_base_add le_rfl]
    omega

/-- Settles O25: the high half is the half from entry 8, and entries 0 to 7 lie outside it. -/
theorem loadColorsHighWritesHighHalf : Obligations.LoadColorsHighWritesHighHalf := by
  intro colors s
  refine ⟨exec_loadColorsHigh_of_held colors, fun h => ⟨loadPalette 8 colors s.pal, ?_,
    palEntry_loadPalette_loaded le_rfl colors s.pal, fun k => palEntry_loadPalette_kept colors s.pal ?_⟩⟩
  · rw [exec_loadColorsHigh, loadColors_of_differs le_rfl colors h]
    rfl
  · rw [BitVec.toNat_ofNat]
    omega

/-- Settles O26: after a load its half holds the loaded colours, so a second load answers as one that changes
nothing. -/
theorem loadColorsIdempotent : Obligations.LoadColorsIdempotent := by
  intro colors s
  refine ⟨exec_loadColorsLow_of_held colors, exec_loadColorsHigh_of_held colors,
    ⟨_, exec_loadColorsLow colors s, ?_, exec_keeps_needsUpdate (exec_loadColorsLow colors s)⟩,
    ⟨_, exec_loadColorsHigh colors s, ?_, exec_keeps_needsUpdate (exec_loadColorsHigh colors s)⟩⟩
  · rw [exec_loadColorsLow, loadColors_loadColors (Nat.zero_le 8)]
  · rw [exec_loadColorsHigh, loadColors_loadColors le_rfl]

/-- Settles O23: the three expanded channels stand one byte apart, red highest. -/
theorem colorExpansion : Obligations.ColorExpansion := by
  intro c
  simp only [expandColor, toNat_append_eq_mul_add, expandChannel_toNat]
  omega

/-- Settles O27: the effect is the one register write of R196, by definition. -/
theorem defineTransparentRecordsOnly : Obligations.DefineTransparentRecordsOnly :=
  fun _ => rfl

end Sys2Proof.Machine

namespace Sys2Proof.Machine

/-! SUPPORT. The steps of one group of twelve packets, for the statements of 45_viewport_timeline.md. -/

/-- The packet that the next packet step fetches, if there is one, does not mark an update. -/
def State.NextIsQuiet (s : State) : Prop := ∀ pkt, s.fetch = some pkt → marksUpdate pkt s = false

theorem nextIsQuiet_iff {s : State} {pkt : List Byte} (h : s.fetch = some pkt) :
    s.NextIsQuiet ↔ marksUpdate pkt s = false := by
  simp [State.NextIsQuiet, h]

section
variable {s t : State} (hrun : s.running = true) (hpos : s.position < s.inputLen / 24) (hs : step s = .next t)
include hrun hpos hs

/-- `step_packet` read backwards: a step taken while a packet is left is that packet's. -/
theorem packetStep_of_step : ∃ pkt, s.fetch = some pkt ∧ packetStep pkt s = .next t := by
  obtain ⟨-, ⟨-, -, h⟩ | ⟨-, hend, -⟩ | ⟨hidle, -⟩⟩ := step_next hs
  · exact h
  · exact absurd hpos (Nat.not_lt.2 hend)
  · rw [hrun] at hidle
    cases hidle

/-- A packet's step goes on with the same `process`, one packet further (R106). -/
theorem step_packet_advances (ht : t.refused = false) :
    t.running = true ∧ t.inputLen = s.inputLen ∧ t.position = s.position + 1 := by
  obtain ⟨pkt, -, hp⟩ := packetStep_of_step hrun hpos hs
  obtain ⟨-, -, -, -, -, hlen, -, hrunning, -⟩ := packetStep_keeps hp
  exact ⟨hrunning.trans hrun, hlen, packetStep_position hp ht⟩

/-- Inside a group, a step leaves the flag clear exactly when it was clear and the packet is quiet. -/
theorem step_packet_within_group (ht : t.refused = false) (hmod : (s.position + 1) % 12 ≠ 0) :
    t.skip = s.skip ∧ (t.needsUpdate = false ↔ s.needsUpdate = false ∧ s.NextIsQuiet) := by
  obtain ⟨pkt, hfetch, hp⟩ := packetStep_of_step hrun hpos hs
  obtain ⟨hflag, hskip, -⟩ := (updateFlagCollects pkt s t hp ht).1 hmod
  rw [hflag, nextIsQuiet_iff hfetch, Bool.or_eq_false_iff]
  exact ⟨hskip, Iff.rfl⟩

/-- At the end of a group, the pushed bit is set exactly when the flag was clear and the packet is quiet. -/
theorem step_packet_ends_group (ht : t.refused = false) (hmod : (s.position + 1) % 12 = 0) :
    ∃ bit, t.skip = s.skip ++ [bit] ∧ (bit = true ↔ s.needsUpdate = false ∧ s.NextIsQuiet) := by
  obtain ⟨pkt, hfetch, hp⟩ := packetStep_of_step hrun hpos hs
  obtain ⟨-, hskip, -⟩ := (updateFlagCollects pkt s t hp ht).2 hmod
  refine ⟨_, hskip, ?_⟩
  rw [nextIsQuiet_iff hfetch, Bool.not_eq_true', Bool.or_eq_false_iff]

end

/-- The run `st` has executed n packets and pushed nothing, and NEEDS_UPDATE is clear exactly when all n were quiet. -/
structure CollectedOver (st : Nat → State) (n : Nat) : Prop where
  running : (st n).running = true
  inputLen : (st n).inputLen = (st 0).inputLen
  position : (st n).position = (st 0).position + n
  skip : (st n).skip = (st 0).skip
  needsUpdate : (st n).needsUpdate = false ↔ ∀ k < n, (st k).NextIsQuiet

/-- The first eleven packets of a group only collect. -/
theorem collectedOver_group {st : Nat → State} (hinv : (st 0).Inv) (hrun : (st 0).running = true)
    (hstart : (st 0).position % 12 = 0) (hroom : (st 0).position + 12 ≤ (st 0).inputLen / 24)
    (href : ∀ k, k ≤ 12 → (st k).refused = false) (hstep : ∀ k, k < 12 → step (st k) = .next (st (k + 1)))
    (n : Nat) (hn : n < 12) : CollectedOver st n := by
  induction n with
  | zero => exact ⟨hrun, rfl, rfl, rfl, by simpa using hinv.groupStart hstart⟩
  | succ n ih =>
    have c := ih (by omega)
    have hpos : (st n).position < (st n).inputLen / 24 := by rw [c.position, c.inputLen]; omega
    have hmod : ((st n).position + 1) % 12 ≠ 0 := by rw [c.position]; omega
    have hs := hstep n (by omega)
    have ht := href (n + 1) (by omega)
    obtain ⟨hrunning, hlen, hnext⟩ := step_packet_advances c.running hpos hs ht
    obtain ⟨hskip, hflag⟩ := step_packet_within_group c.running hpos hs ht hmod
    refine ⟨hrunning, hlen.trans c.inputLen, by rw [hnext, c.position, Nat.add_assoc], hskip.trans c.skip, ?_⟩
    rw [hflag, c.needsUpdate, Nat.forall_lt_succ_right]

end Sys2Proof.Machine

namespace Sys2Proof.Machine

/-! SUPPORT. The statements of 45_viewport_timeline.md, settled. -/

/-- Settles O35: with the offsets in range the push is `State.pushFrame`, and its frame is `currentFrame`. -/
theorem framePushSnapshotsViewport : Obligations.FramePushSnapshotsViewport := by
  intro s hh hv
  exact ⟨currentFrame s, framePush_of_range hh hv, rfl, fun _ _ hx hy => get_sampleRgb s hx hy⟩

/-- Settles O38: eleven packets collect, and the twelfth pushes the complement of what all twelve marked. -/
theorem skipBitSpeaksOfTwelvePackets : Obligations.SkipBitSpeaksOfTwelvePackets := by
  intro st hinv hrun hstart hroom href hstep
  have c : CollectedOver st 11 := collectedOver_group hinv hrun hstart hroom href hstep 11 (by omega)
  have hpos : (st 11).position < (st 11).inputLen / 24 := by rw [c.position, c.inputLen]; omega
  have hmod : ((st 11).position + 1) % 12 = 0 := by rw [c.position]; omega
  obtain ⟨bit, hskip, hbit⟩ :=
    step_packet_ends_group c.running hpos (hstep 11 (by omega)) (href 12 le_rfl) hmod
  refine ⟨bit, by rw [hskip, c.skip], ?_⟩
  rw [hbit, c.needsUpdate, ← Nat.forall_lt_succ_right]
  rfl

/-- Settles O36: a window pixel is a border pixel only past column 293 or row 203. -/
theorem samplesLieInside : Obligations.SamplesLieInside := by
  intro s x y hh hv hx hy
  refine ⟨get_sampleIndexed s hx hy, by omega, by omega, by omega, by omega, sampleInside_of_range hh hv, ?_⟩
  rw [inBorder_eq_true]
  omega

end Sys2Proof.Machine

namespace Sys2Proof.Machine

/-! SUPPORT. What a served call returns, the answers of the guarded queries, and a whole run of `process`, for the
statements of 46_host_interface.md. -/

/-! ### A call served in one step -/

theorem guardedQuery_before {s : State} (h : s.processed = false) (answer : HostReply) :
    guardedQuery s answer = .returned (.error .queryBeforeProcess) s := by
  simp [guardedQuery, h, State.raise]

theorem guardedQuery_after {s : State} (h : s.processed = true) (answer : HostReply) :
    guardedQuery s answer = .returned answer s := by
  simp [guardedQuery, h]

section
variable {s t : State} {c : HostCall} {rest : List HostCall} {r : HostReply}
  (href : s.refused = false) (hrun : s.running = false) (hcalls : s.calls = c :: rest)
include href hrun hcalls

theorem step_returned (hp : perform c (s.setCalls rest) = .returned r t) : step s = .next (t.reply r) := by
  rw [step_serving href hrun, serveCall_returned hcalls hp]

/-- A call that returns the state it was given is taken off the calls and replied to; nothing else changes. -/
theorem step_answers (hp : perform c (s.setCalls rest) = .returned r (s.setCalls rest)) :
    step s = .next { s with calls := rest, replies := s.replies ++ [r] } :=
  step_returned href hrun hcalls hp

theorem step_guarded_before (hp : s.processed = false)
    (hguard : perform c (s.setCalls rest) = guardedQuery (s.setCalls rest) r) :
    step s = .next { s with calls := rest, replies := s.replies ++ [.error .queryBeforeProcess] } :=
  step_answers href hrun hcalls (hguard.trans (guardedQuery_before (s := s.setCalls rest) hp r))

theorem step_guarded_after (hp : s.processed = true)
    (hguard : perform c (s.setCalls rest) = guardedQuery (s.setCalls rest) r) :
    step s = .next { s with calls := rest, replies := s.replies ++ [r] } :=
  step_answers href hrun hcalls (hguard.trans (guardedQuery_after (s := s.setCalls rest) hp r))

end

/-! ### `open` and `process` -/

section
variable {s : State} {bytes : List Byte} {rest : List HostCall} (href : s.refused = false) (hrun : s.running = false)
include href hrun

theorem step_open_accepted (hcalls : s.calls = .openStream bytes :: rest) (hne : bytes ≠ [])
    (hlen : bytes.length / 24 ≤ s.cfg.maxPackets) :
    step s = .next (({ (s.setCalls rest).resetState with
      input := Memory.ofBytes bytes, inputLen := bytes.length, isOpen := true } : State).reply (.bool true)) :=
  step_returned href hrun hcalls (perform_open_accepted hne hlen)

theorem step_open_empty (hcalls : s.calls = .openStream [] :: rest) :
    step s = .next ((s.setCalls rest).resetState.reply (.error .emptyInput)) :=
  step_returned href hrun hcalls (perform_open_empty _)

/-- An `open` that is not refused answers, leaves TEMPO 100 and lets the next call be served (R230, R280). -/
theorem step_open_unrefused (hcalls : s.calls = .openStream bytes :: rest)
    (hlen : bytes.length / 24 ≤ s.cfg.maxPackets) :
    ∃ r t, step s = .next t ∧ t.replies = s.replies ++ [r] ∧ t.refused = false ∧ t.running = false ∧
      t.calls = rest ∧ t.tempo = 100 := by
  rcases eq_or_ne bytes [] with rfl | hne
  · exact ⟨_, _, step_open_empty href hrun hcalls, rfl, href, rfl, rfl, rfl⟩
  · exact ⟨_, _, step_open_accepted href hrun hcalls hne hlen, rfl, href, rfl, rfl, rfl⟩

end

theorem beginProcess_closed {s : State} (ho : s.isOpen = false) : beginProcess s = .returned (.error .notOpen) s := by
  simp [beginProcess, ho, State.raise]

theorem beginProcess_again {s : State} (ho : s.isOpen = true) (hp : s.processed = true) :
    beginProcess s = .returned (.error .alreadyProcessed) s := by
  simp [beginProcess, ho, hp, State.raise]

theorem beginProcess_begun {s : State} (ho : s.isOpen = true) (hp : s.processed = false) :
    beginProcess s = .begun { s with running := true } := by
  simp [beginProcess, ho, hp]

/-! ### The answers of the guarded queries -/

/-- `ceilQ a b` is the least integer at or above a / b (R10). -/
theorem ceilQ_le_iff (a : Int) {b : Nat} (hb : 0 < b) (i : Int) : ceilQ a b ≤ i ↔ a ≤ b * i := by
  have hfloor : -i ≤ -a / (b : Int) ↔ -i * b ≤ -a := Int.le_ediv_iff_mul_le (by omega)
  rw [ceilQ, neg_le, hfloor, neg_mul, neg_le_neg_iff, mul_comm]

section
variable {s : State} {ms : Nat}

theorem frameIndex_of_neg (h : queryIndex s ms < 0) : frameIndex s ms = 0 := by
  simp [frameIndex, h]

theorem frameIndex_of_end (h : (s.frames.length : Int) ≤ queryIndex s ms) :
    frameIndex s ms = s.frames.length - 1 := by
  rw [frameIndex, if_neg (by omega), if_pos h]

theorem frameIndex_of_inside {k : Nat} (h : queryIndex s ms = k) (hk : k < s.frames.length) :
    frameIndex s ms = k := by
  rw [frameIndex, if_neg (by omega), if_neg (by omega), h, Int.toNat_natCast]

theorem frameAtAnswer_of_frame {f : Frame} (h : s.frames[frameIndex s ms]? = some f) :
    frameAtAnswer ms s = .frame f := by
  simp [frameAtAnswer, h]

theorem frameAtAnswer_of_empty (h : s.frames = []) : frameAtAnswer ms s = .error .emptyTimeline := by
  simp [frameAtAnswer, h]

theorem skipBit_natCast (k : Nat) : skipBit s k = true ↔ s.skip[k]? = some true := by
  cases h : s.skip[k]? <;> simp [skipBit, h]

/-- With no frame before the query index there is no quiet window. -/
theorem canSkipAnswer_of_not_pos (h : queryIndex s ms ≤ 0) : canSkipAnswer ms s = false := by
  rw [canSkipAnswer, if_pos (.inl (by omega))]

/-- With a frame before the query index, the window is quiet exactly when the three skip bits are there and set. -/
theorem canSkipAnswer_of_index {k : Nat} (h : queryIndex s ms = (k : Int) + 1) :
    canSkipAnswer ms s = true ↔
      s.skip[k]? = some true ∧ s.skip[k + 1]? = some true ∧ s.skip[k + 2]? = some true := by
  have hbefore : queryIndex s ms - 1 = (k : Nat) := by omega
  have hat : queryIndex s ms = (k + 1 : Nat) := by omega
  have hafter : queryIndex s ms + 1 = (k + 2 : Nat) := by omega
  by_cases hend : s.skip.length ≤ k + 2
  · have hnone : s.skip[k + 2]? = none := List.getElem?_eq_none hend
    rw [canSkipAnswer, if_pos (.inr (by omega)), hnone]
    simp
  · rw [canSkipAnswer, if_neg (by omega), hbefore, hafter, hat, Bool.and_eq_true, Bool.and_eq_true,
      skipBit_natCast, skipBit_natCast, skipBit_natCast, and_assoc]

end

/-- Each DURATION_MODE's formula, kept to 32 bits (R237). -/
theorem durationMs_toNat (s : State) :
    (durationMs s).toNat =
      (match s.cfg.durationMode with
       | .rate => s.inputLen / 24 * 1000 / 300
       | .doc => s.inputLen / 24 * 40
       | .reference => s.inputLen * 40) % 2 ^ 32 := by
  unfold durationMs
  cases s.cfg.durationMode with
  | rate => exact BitVec.toNat_ofNat _ _
  | doc => exact BitVec.toNat_ofNat _ _
  | reference => exact BitVec.toNat_ofNat _ _

/-! ### Packets complete -/

/-- No instruction faults (R260). -/
theorem exec_ne_fault (i : Instr) (s : State) (f : Fault) : exec i s ≠ .fault f := by
  rcases exec_cases i s with e | ⟨_, e⟩ | ⟨_, _, _, -, -, e⟩ | ⟨_, _, -, -, e⟩ | e | ⟨_, e⟩ <;> simp [e]

/-- With the offsets in range every packet of 24 bytes ends its step in a next state (R260). -/
theorem packetStep_completes {pkt : List Byte} {s : State} (hl : pkt.length = 24) (hh : s.hoff.toNat ≤ 5)
    (hv : s.voff.toNat ≤ 11) : ∃ t, packetStep pkt s = .next t := by
  cases hd : decode pkt with
  | instr i =>
    rw [packetStep_instr hd]
    cases he : exec i s with
    | next u =>
      obtain ⟨t, ht, -⟩ := instrStep_of_range he hh hv
      exact ⟨t, ht⟩
    | fault f => exact absurd he (exec_ne_fault i s f)
    | refused r => exact ⟨_, instrStep_refused he⟩
  | reserved c => exact ⟨_, (packetStep_reserved hd s).trans (finishPacket_of_range hh hv)⟩
  | notCdg => exact ⟨_, (packetStep_notCdg hd s).trans (finishPacket_of_range hh hv)⟩
  | notAPacket => exact absurd hd (decode_ne_notAPacket hl)

/-- Under parameters that never refuse, no packet step sets the mark (R110). -/
theorem packetStep_unrefused {pkt : List Byte} {s t : State} (hcfg : s.cfg.neverRefuses) (hs : s.refused = false)
    (h : packetStep pkt s = .next t) : t.refused = false := by
  by_contra ht
  obtain ⟨i, r, -, he⟩ := packetStep_sets_refused h hs (by simpa using ht)
  exact (exec_refused he).2 hcfg

/-! ### A run of `process` -/

/-- `process` runs in a healthy state, under parameters that never refuse. -/
structure State.Processing (s : State) : Prop where
  inv : s.Inv
  running : s.running = true
  refused : s.refused = false
  neverRefuses : s.cfg.neverRefuses

/-- The registers that a run of `process` leaves alone. -/
def State.kept (s : State) : Config × BitVec 32 × Bool × Nat × List HostCall × List HostReply :=
  (s.cfg, s.tempo, s.isOpen, s.inputLen, s.calls, s.replies)

theorem kept_eq_iff {s t : State} :
    t.kept = s.kept ↔ t.cfg = s.cfg ∧ t.tempo = s.tempo ∧ t.isOpen = s.isOpen ∧ t.inputLen = s.inputLen ∧
      t.calls = s.calls ∧ t.replies = s.replies := by
  simp [State.kept]

theorem packetStep_kept {pkt : List Byte} {s t : State} (h : packetStep pkt s = .next t) : t.kept = s.kept := by
  obtain ⟨hcfg, htempo, hopen, -, -, hlen, -, -, hcalls, hreplies⟩ := packetStep_keeps h
  exact kept_eq_iff.2 ⟨hcfg, htempo, hopen, hlen, hcalls, hreplies⟩

/-- While a packet is left, a step of `process` executes it and `process` runs on. -/
theorem State.Processing.executes_packet {s : State} (h : s.Processing) (hpos : s.position < s.inputLen / 24) :
    ∃ t, step s = .next t ∧ t.Processing ∧ t.position = s.position + 1 ∧ t.kept = s.kept := by
  obtain ⟨pkt, hfetch, hl⟩ := fetch_of_inv h.inv h.running hpos
  obtain ⟨t, ht⟩ := packetStep_completes hl h.inv.hoffRange h.inv.voffRange
  have href : t.refused = false := packetStep_unrefused h.neverRefuses h.refused ht
  have hstep : step s = .next t := (step_packet h.refused h.running hpos hfetch).trans ht
  obtain ⟨hrun, -, hnext⟩ := step_packet_advances h.running hpos hstep href
  have hkept : t.kept = s.kept := packetStep_kept ht
  obtain ⟨hcfg, -⟩ := kept_eq_iff.1 hkept
  exact ⟨t, hstep, ⟨stepKeepsInvariant s t h.inv hstep, hrun, href, hcfg ▸ h.neverRefuses⟩, hnext, hkept⟩

/-- With n packets left, n + 1 steps execute them all and end `process` (R100, R232). -/
theorem State.Processing.runs_to_end {n : Nat} {s : State} (h : s.Processing) (hn : s.position + n = s.inputLen / 24) :
    ∃ u : State, u.Processing ∧ u.position = u.inputLen / 24 ∧ u.kept = s.kept ∧
      Host.Core.run Sys2Proof.core (n + 1) s = .next (u.endProcess.reply (.bool true)) := by
  induction n generalizing s with
  | zero =>
    have hend : s.inputLen / 24 ≤ s.position := by omega
    exact ⟨s, h, by omega, rfl, run_of_next ((step_running h.refused h.running).trans (processStep_end hend))⟩
  | succ n ih =>
    obtain ⟨t, hstep, ht, hpos, hkept⟩ := h.executes_packet (by omega)
    obtain ⟨-, -, -, hlen, -, -⟩ := kept_eq_iff.1 hkept
    obtain ⟨u, hu, hend, hukept, hrun⟩ := ih ht (by omega)
    exact ⟨u, hu, hend, hukept.trans hkept, (run_of_next hstep).trans hrun⟩

/-- Before `process` has completed no tail is recorded. -/
theorem State.Inv.truncated_eq_false {s : State} (h : s.Inv) (hp : s.processed = false) : s.truncated = false := by
  by_contra ht
  exact Bool.false_ne_true (hp.symm.trans (h.truncatedPhase (by simpa using ht)).1)

/-- Beginning `process` takes one step, and from there all the packets of the input are left (R232). -/
theorem step_begins_processing {s : State} {rest : List HostCall} (hinv : s.Inv) (href : s.refused = false)
    (hcfg : s.cfg.neverRefuses) (ho : s.isOpen = true) (hp : s.processed = false) (hrun : s.running = false)
    (hcalls : s.calls = .process :: rest) :
    ∃ t, step s = .next t ∧ t.Processing ∧ t.position = 0 ∧ t.kept = (s.setCalls rest).kept := by
  have hstep : step s = .next { s.setCalls rest with running := true } := by
    rw [step_serving href hrun, serveCall_begun hcalls (beginProcess_begun ho hp)]
  exact ⟨_, hstep, ⟨(hinv.setCalls rest).begun ho hp, rfl, href, hcfg⟩, hinv.openPhase ho hp hrun, rfl⟩

end Sys2Proof.Machine

namespace Sys2Proof.Machine

/-! SUPPORT. The statements of 46_host_interface.md, settled. -/

/-- Settles O47, by where the query index falls. -/
theorem frameAtClamps : Obligations.FrameAtClamps := by
  intro s ms rest href hrun hp hcalls
  have hanswer : step s = .next { s with calls := rest, replies := s.replies ++ [frameAtAnswer ms s] } :=
    step_guarded_after href hrun hcalls hp rfl
  rw [hanswer]
  refine ⟨fun hempty => by rw [frameAtAnswer_of_empty hempty], ?_⟩
  rintro f ⟨-, hcase⟩
  suffices hindex : s.frames[frameIndex s ms]? = some f by rw [frameAtAnswer_of_frame hindex]
  rcases hcase with ⟨hneg, hf⟩ | ⟨hend, hf⟩ | ⟨k, hk, hf⟩
  · rwa [frameIndex_of_neg hneg]
  · rwa [frameIndex_of_end hend, ← List.getLast?_eq_getElem?]
  · rwa [frameIndex_of_inside hk (List.getElem?_eq_some_iff.1 hf).1]

/-- Settles O48, by the sign of the query index: only a positive one is k + 1 with frame k before it. -/
theorem canSkipIsThreeFrameWindow : Obligations.CanSkipIsThreeFrameWindow := by
  intro s ms rest href hrun hcalls
  refine ⟨fun hp => step_guarded_before href hrun hcalls hp rfl,
    fun hp => ⟨canSkipAnswer ms s, step_guarded_after href hrun hcalls hp rfl, ?_⟩⟩
  rcases le_or_gt (queryIndex s ms) 0 with hle | hpos
  · rw [canSkipAnswer_of_not_pos hle]
    simp only [Bool.false_eq_true, false_iff]
    rintro ⟨k, hk, -⟩
    omega
  · obtain ⟨k, hk⟩ : ∃ k : Nat, queryIndex s ms = (k : Int) + 1 := ⟨(queryIndex s ms - 1).toNat, by omega⟩
    rw [canSkipAnswer_of_index hk]
    refine ⟨fun hbits => ⟨k, hk, hbits⟩, ?_⟩
    rintro ⟨j, hj, hbits⟩
    obtain rfl : j = k := by omega
    exact hbits

/-- Settles O59: one step begins, the run of `process` executes the packets and ends, and the invariant counts and
times the frames. -/
theorem processRunsToCompletion : Obligations.ProcessRunsToCompletion := by
  intro s rest hinv href hcfg ho hp hrun hcalls
  obtain ⟨t, hstep, ht, hpos, htkept⟩ := step_begins_processing hinv href hcfg ho hp hrun hcalls
  obtain ⟨-, -, -, htlen, -, -⟩ := kept_eq_iff.1 htkept
  obtain ⟨u, hu, hend, hukept, hruns⟩ := ht.runs_to_end (n := s.inputLen / 24) (by rw [hpos, Nat.zero_add, htlen]; rfl)
  obtain ⟨-, htempo, hopen, hlen, hrest, hreplies⟩ := kept_eq_iff.1 (hukept.trans htkept)
  have hposition : u.position = s.inputLen / 24 := hend.trans (congrArg (· / 24) hlen)
  have hframes : u.frames.length = s.inputLen / 24 / 12 := by rw [hu.inv.frameCount, hposition]
  have htrunc : u.truncated = false := hu.inv.truncated_eq_false (hu.inv.runningPhase hu.running).2
  refine ⟨u.endProcess.reply (.bool true), (run_of_next hstep).trans hruns, rfl, rfl, hu.refused, hopen.trans ho,
    hposition, hframes, hu.inv.skipParallel.trans hframes, hu.inv.frameTimes, ?_, rfl, hlen, htempo, hrest, ?_⟩
  · simp [htrunc, hlen]
  · simp [hreplies]

/-- Settles O41: the step is `ResetState` with the bytes accepted. -/
theorem openResetsAndAccepts : Obligations.OpenResetsAndAccepts := by
  intro s bytes rest href hrun hcalls hne hlen
  exact ⟨_, step_open_accepted href hrun hcalls hne hlen, rfl, rfl, fun a => Memory.read_ofBytes bytes a,
    { resetState_atReset (s.setCalls rest) with }, rfl, href, rfl, rfl, rfl⟩

/-- Settles O42: the step is `ResetState` with EmptyInput answered. -/
theorem openOfNothingFails : Obligations.OpenOfNothingFails := by
  intro s rest href hrun hcalls
  exact ⟨_, step_open_empty href hrun hcalls, { resetState_atReset (s.setCalls rest) with }, rfl, href, rfl, rfl,
    rfl⟩

/-- Settles O43, by the two errors of `beginProcess`. -/
theorem processNotCallable : Obligations.ProcessNotCallable := by
  intro s rest href hrun hcalls
  exact ⟨fun ho => step_answers href hrun hcalls (beginProcess_closed ho),
    fun ho hp => step_answers href hrun hcalls (beginProcess_again ho hp)⟩

/-- Settles O45: each of the four queries passes the one guard. -/
theorem queriesBeforeProcessFail : Obligations.QueriesBeforeProcessFail := by
  intro s c rest href hrun hp hcalls hquery
  rcases hquery with ⟨ms, rfl | rfl⟩ | rfl | rfl <;> exact step_guarded_before href hrun hcalls hp rfl

/-- Settles O46: the ceiling is exact, and 4000 is positive. -/
theorem queryIndexIsExactCeiling : Obligations.QueryIndexIsExactCeiling := fun _ _ i =>
  ceilQ_le_iff _ (by decide) i

/-- Settles O49, by the guard passed and the formulas of `durationMs`. -/
theorem durationAndLastUpdateAnswers : Obligations.DurationAndLastUpdateAnswers := by
  intro s rest href hrun hp
  exact ⟨fun hcalls => step_guarded_after href hrun hcalls hp rfl,
    fun hcalls => ⟨durationMs s, step_guarded_after href hrun hcalls hp rfl, durationMs_toNat s⟩⟩

/-- Settles O50: the query answers TEMPO, and every `open` that is not refused leaves it 100. -/
theorem tempoQueryAnswers : Obligations.TempoQueryAnswers := by
  have hquery : ∀ (s : State) (rest : List HostCall), s.refused = false → s.running = false →
      s.calls = .tempo :: rest →
      step s = .next { s with calls := rest, replies := s.replies ++ [.percent s.tempo] } :=
    fun s rest href hrun hcalls => step_answers href hrun hcalls rfl
  refine ⟨hquery, by decide, fun s => (resetState_atReset s).tempo, ?_⟩
  intro s bytes rest href hrun hcalls hlen
  obtain ⟨r, t, hopen, hreplies, htref, htrun, htcalls, htempo⟩ := step_open_unrefused href hrun hcalls hlen
  exact ⟨r, t, _, hopen, hreplies, hquery t rest htref htrun htcalls, by simp [hreplies, htempo]⟩

/-- Settles O51: both calls answer at once. -/
theorem setTempoAndIsOpenAnswer : Obligations.SetTempoAndIsOpenAnswer := by
  intro s rest href hrun
  exact ⟨fun p hcalls => step_returned href hrun hcalls rfl, fun hcalls => step_answers href hrun hcalls rfl⟩

end Sys2Proof.Machine

namespace Sys2Proof.Machine

/-! SUPPORT. How a packet step ends, and the step functions that raise no fault, for the statements of
60_exceptions.md. -/

/-- A packet step that answers a next state either met a refused instruction, and set the mark only, or ended the state
that the packet's effect left, with its offsets still in range (R104, R105, R262). -/
theorem packetStep_refused_or_finished {pkt : List Byte} {s t : State} (h : packetStep pkt s = .next t)
    (hh : s.hoff.toNat ≤ 5) (hv : s.voff.toNat ≤ 11) :
    (t = s.markRefused ∧ ∃ i r, exec i s = .refused r) ∨
    ∃ (u : State) (b : Bool), u.drawnFrom s ∧ u.hoff.toNat ≤ 5 ∧ u.voff.toNat ≤ 11 ∧
      finishPacket (u.setLastMp b) = .next t := by
  cases hd : decode pkt with
  | instr i =>
    rw [packetStep_instr hd] at h
    cases he : exec i s with
    | next u =>
      obtain ⟨huh, huv⟩ := exec_offsets he hh hv
      exact .inr ⟨u, _, exec_drawnFrom he, huh, huv, (instrStep_next he).symm.trans h⟩
    | fault f => exact absurd he (exec_ne_fault i s f)
    | refused r =>
      rw [instrStep_refused he] at h
      cases h
      exact .inl ⟨rfl, i, r, he⟩
  | reserved c => exact .inr ⟨s, false, rfl, hh, hv, (packetStep_reserved hd s).symm.trans h⟩
  | notCdg => exact .inr ⟨s, s.lastMp, rfl, hh, hv, (packetStep_notCdg hd s).symm.trans h⟩
  | notAPacket => simp [packetStep, hd] at h

/-- A packet step keeps the offsets in range (R26, R27). -/
theorem packetStep_offsets {pkt : List Byte} {s t : State} (h : packetStep pkt s = .next t) (hh : s.hoff.toNat ≤ 5)
    (hv : s.voff.toNat ≤ 11) : t.hoff.toNat ≤ 5 ∧ t.voff.toNat ≤ 11 := by
  rcases packetStep_refused_or_finished h hh hv with ⟨rfl, -⟩ | ⟨u, b, -, huh, huv, hf⟩
  · exact ⟨hh, hv⟩
  · rw [finishPacket_frame hf]
    exact ⟨huh, huv⟩

/-- Under parameters that never refuse, a packet step leaves the mark as it was and advances the position by exactly
1 (R106, R110). -/
theorem packetStep_advances_of_neverRefuses {pkt : List Byte} {s t : State} (h : packetStep pkt s = .next t)
    (hh : s.hoff.toNat ≤ 5) (hv : s.voff.toNat ≤ 11) (hcfg : s.cfg.neverRefuses) :
    t.refused = s.refused ∧ t.position = s.position + 1 := by
  rcases packetStep_refused_or_finished h hh hv with ⟨-, i, r, he⟩ | ⟨u, b, hu, -, -, hf⟩
  · exact absurd hcfg (exec_refused he).2
  · rw [finishPacket_frame hf, hu]
    exact ⟨rfl, rfl⟩

/-- While `process` runs in a state that meets the invariant, its step completes: a packet that is left is held and
executed, and with none left the operation ends (R100, R232). -/
theorem State.Inv.processStep_completes {s : State} (h : s.Inv) (hrun : s.running = true) :
    ∃ t, processStep s = .next t := by
  rcases Nat.lt_or_ge s.position (s.inputLen / 24) with hpos | hend
  · obtain ⟨pkt, hfetch, hl⟩ := fetch_of_inv h hrun hpos
    rw [processStep_packet hpos hfetch]
    exact packetStep_completes hl h.hoffRange h.voffRange
  · exact ⟨_, processStep_end hend⟩

/-- A host call completes from every state: what it returns, begins or refuses is a next state. -/
theorem serveCall_completes (s : State) : ∃ t, serveCall s = .next t := by
  cases hcalls : s.calls with
  | nil => exact ⟨_, serveCall_nil hcalls⟩
  | cons c rest =>
    cases hp : perform c (s.setCalls rest) with
    | returned r t => exact ⟨_, serveCall_returned hcalls hp⟩
    | begun t => exact ⟨_, serveCall_begun hcalls hp⟩
    | refused r t => exact ⟨_, serveCall_refused hcalls hp⟩

/-- From a state that meets the invariant and has no refusal mark every step completes. -/
theorem State.Inv.step_completes {s : State} (h : s.Inv) (href : s.refused = false) : ∃ t, step s = .next t := by
  cases hrun : s.running with
  | true =>
    rw [step_running href hrun]
    exact h.processStep_completes hrun
  | false =>
    rw [step_serving href hrun]
    exact serveCall_completes s

end Sys2Proof.Machine

namespace Sys2Proof.Machine

/-! SUPPORT. The statements of 60_exceptions.md, settled. -/

/-- Settles O32: with the offsets in range every packet completes, and its step keeps the parameters, the replies and
the range; only a refused instruction keeps the position from advancing. -/
theorem everyPacketCompletes : Obligations.EveryPacketCompletes := by
  intro pkt s hl hh hv
  obtain ⟨t, ht⟩ := packetStep_completes hl hh hv
  obtain ⟨hcfg, -, -, -, -, -, -, -, -, hreplies⟩ := packetStep_keeps ht
  obtain ⟨hth, htv⟩ := packetStep_offsets ht hh hv
  exact ⟨t, ht, hcfg, hth, htv, hreplies, packetStep_advances_of_neverRefuses ht hh hv⟩

/-- Settles O58: a state with the refusal mark refuses its step, and from every other the step completes. -/
theorem invariantStatesNeverFault : Obligations.InvariantStatesNeverFault := by
  intro s f hinv
  cases href : s.refused with
  | true => simp [step_refused href]
  | false =>
    obtain ⟨t, ht⟩ := hinv.step_completes href
    simp [ht]

/-- Settles O53: the block serves the host's calls, and none is pending. -/
theorem idleBlockDoesNothing : Obligations.IdleBlockDoesNothing := by
  intro s href hrun hcalls
  rw [step_serving href hrun, serveCall_nil hcalls]

end Sys2Proof.Machine

namespace Sys2Proof.Machine

/-! SUPPORT. The state after reset, for the statements of 70_reset_and_hazards.md. -/

@[simp] theorem pixelAt_uniformFramebuffer (c : Pixel) {x y : Nat} (hx : x < 300) (hy : y < 216) :
    pixelAt (uniformFramebuffer c) x y = c := by
  simp [pixelAt, Grid.get, uniformFramebuffer, hx, hy]

/-- A decoder that has just been built is one that `ResetState` leaves as it is, so it holds the reset values (R281). -/
theorem reset_atReset : State.reset.AtReset := resetState_atReset State.reset

/-- Black is an expanded colour (R24, R191). -/
theorem expandColor_black : expandColor ⟨0, 0, 0⟩ = 0 := by decide

/-- The reset values meet the invariant under every legal MAX_PACKETS while no `process` runs: nothing is held, counted
or shown, and every palette entry is black (R280). -/
theorem State.AtReset.inv {s : State} (h : s.AtReset) (hcfg : s.cfg.wf) (hrun : s.running = false) : s.Inv where
  cfgWf := hcfg
  hoffRange := by simp [h.hoff]
  voffRange := by simp [h.voff]
  paletteExpanded i := ⟨⟨0, 0, 0⟩, (h.pal i).trans expandColor_black.symm⟩
  skipParallel := by simp [h.skip, h.frames]
  frameCount := by simp [h.frames, h.position]
  frameTimes i f hf := by simp [h.frames] at hf
  positionBound := by simp [h.position]
  inputBound := by simp [h.inputLen]
  groupStart _ := h.needsUpdate
  updateTime := by simp [h.lastUpdateMs]
  inputWf := h.input ▸ List.Pairwise.nil
  inputReadable a := by simp [h.input, h.inputLen, h.processed, Memory.read]
  closedPhase _ := ⟨h.processed, hrun, h.inputLen⟩
  runningPhase hr := absurd hr (by simp [hrun])
  openPhase _ _ _ := h.position
  processedPhase _ := by simp [h.position, h.inputLen]
  truncatedPhase ht := absurd ht (by simp [h.truncated])

end Sys2Proof.Machine

namespace Sys2Proof.Machine

/-! SUPPORT. The statements of 70_reset_and_hazards.md, settled. -/

/-- Settles O55: a decoder that has just been built is in the state that `ResetState` leaves, and FB_INIT is the
framebuffer of colour 0. -/
theorem resetValues : Obligations.ResetValues :=
  ⟨reset_atReset, rfl, rfl, rfl, rfl, fun _ _ hx hy => pixelAt_uniformFramebuffer 0 hx hy⟩

/-- Settles O56: the reset values meet the invariant, under the default MAX_PACKETS and with no `process` running. -/
theorem resetMeetsInvariant : Obligations.ResetMeetsInvariant :=
  reset_atReset.inv (Nat.le_refl _) rfl

end Sys2Proof.Machine
